-- ==== Sys2Proof/Word.lean ====
section
/-! DEFINITION. The value types of the decoder array: the widths that 00_scope.md section 4 and the state table of
10_state.md fix for the registers, the operation word and the response word. -/

namespace Sys2Proof

/-- A timestamp, an interval or a strobe threshold: `W = 32` bits of microseconds (R6). -/
abbrev Timestamp := BitVec 32

/-- An operation word of the port (R51, R80). -/
abbrev OpWord := BitVec 64

/-- A response word of the port (R51). -/
abbrev RespWord := BitVec 32

/-- A pin number of the external pin facility, `PIN_W = 8` bits (R9). -/
abbrev PinNumber := BitVec 8

/-- The opaque sensor type code, `TYPE_W = 8` bits (R9, R33). -/
abbrev SensorCode := BitVec 8

/-- The published reading, `RAW_WIDTH = 16` bits (R27). -/
abbrev RawValue := BitVec 16

/-- The bit accumulator, `ACC_WIDTH = 20` bits (R23). -/
abbrev Accumulator := BitVec 20

/-- The parity count, 8 bits (R24). -/
abbrev ParityCount := BitVec 8

/-- A slot index, `0` to `N_CHANNELS - 1` (R5, R50): an index, not a word. -/
abbrev SlotIndex := Fin 4

/-- The levels of all the pins a pin number can name, bit `p` the level of pin `p` (`pin[p]` of R176). -/
abbrev PinLevels := BitVec 256

end Sys2Proof
end

