-- ==== Sys2Proof/Config.lean ====
section
/-! DEFINITION. What is fixed when the block is built: the constants that the spec gives a value, and, as constants with
no body, the four it leaves OPEN (92_eei_decisions.md D3, D4, D22, D23). -/

namespace Sys2Proof

/-- `N_CHANNELS`, the number of slots (R5). -/
def Config.nChannels : Nat := 4

/-- `PIN_NONE`, the `powerPin` value that says "externally powered" (R9). -/
def Config.pinNone : PinNumber := 0xFF#8

/-- `FRAME_LAST`, the position whose rising edge completes a frame (00_scope.md section 4). -/
def Config.frameLast : Int := 19

/-- The saturation value of `bitPosition`, "overrun" (R21, R110). -/
def Config.overrun : Int := 20

/-- `READ_TIMEOUT_US`, the host's bound on the wait for `initialized` (R164, R180). -/
def Config.readTimeoutUs : Nat := 100000

/-- `LONG_GAP_US` (R7): OPEN, so no value of it can be proved. -/
opaque Config.longGapUs : Timestamp

/-- `CAL_OFFSET_US` (R8): OPEN, so no value of it can be proved. -/
opaque Config.calOffsetUs : Timestamp

/-- `PWR_ON_LEVEL`, the output level that powers a sensor on (R126): OPEN. -/
opaque Config.pwrOnLevel : Bool

/-- `POLL_INTERVAL_US`, the host's polling increment (R180): OPEN. -/
opaque Config.pollIntervalUs : Nat

/-- The error taxonomy of R161. Only `slotExhausted` stands in a response word; `parityError` shows as a flag; the
other two are results of the host's read. -/
inductive ErrorCode where
  | none
  | slotExhausted
  | initializationTimeout
  | parityError
  | noContinuationValue
  deriving DecidableEq, Repr

end Sys2Proof
end

