-- ==== Sys2Proof/Syntax.lean ====
section
/-! DEFINITION. The twelve operations of the block (R10, R81), one constructor for each row of
spec/opcode_table.json, each with the operands the operation uses. -/

namespace Sys2Proof

/-- An operation. The level of an edge is no operand: it is fixed by the constructor (R82). -/
inductive Instr where
  /-- NOP (R146). -/
  | nop
  /-- FALL slot, ts: a falling edge (R92 to R95). -/
  | fall (slot : SlotIndex) (ts : Timestamp)
  /-- RISE slot, ts: a rising edge (R96 to R102). -/
  | rise (slot : SlotIndex) (ts : Timestamp)
  /-- RD_FLAGS slot (R121). -/
  | rdFlags (slot : SlotIndex)
  /-- RD_RAW slot (R122). -/
  | rdRaw (slot : SlotIndex)
  /-- CLR_FLAGS slot (R123). -/
  | clrFlags (slot : SlotIndex)
  /-- PWR_ON slot (R126). -/
  | pwrOn (slot : SlotIndex)
  /-- PWR_OFF slot (R127). -/
  | pwrOff (slot : SlotIndex)
  /-- RD_CFG slot (R124). -/
  | rdCfg (slot : SlotIndex)
  /-- ATTACH sig, pwr, typ (R140, R141). -/
  | attach (sig : PinNumber) (pwr : PinNumber) (typ : SensorCode)
  /-- DETACH slot (R142). -/
  | detach (slot : SlotIndex)
  /-- RESET (R147). -/
  | reset
  deriving DecidableEq, Repr

end Sys2Proof
end

