-- ==== Sys2Proof/WellFormed.lean ====
section
/-! DEFINITION. What makes an operation word well formed (R80, R83), and the one check the spec makes of an operation.
A word can fail each check. An operation of `Instr` cannot: its operand types admit exactly the values the fields of the
operation word can hold. -/

namespace Sys2Proof

/-- R52, R83: an operation's slot index is below `N_CHANNELS`. -/
def Instr.wellFormed : Instr → Bool
  | .nop => true
  | .fall i _ => decide (i.val < Config.nChannels)
  | .rise i _ => decide (i.val < Config.nChannels)
  | .rdFlags i => decide (i.val < Config.nChannels)
  | .rdRaw i => decide (i.val < Config.nChannels)
  | .clrFlags i => decide (i.val < Config.nChannels)
  | .pwrOn i => decide (i.val < Config.nChannels)
  | .pwrOff i => decide (i.val < Config.nChannels)
  | .rdCfg i => decide (i.val < Config.nChannels)
  | .attach _ _ _ => true
  | .detach i => decide (i.val < Config.nChannels)
  | .reset => true

/-- R83: the `op` field (bits 63:60) is none of the reserved codes `0xB` to `0xE`. -/
def OpWord.opAllowed (w : OpWord) : Bool :=
  decide ((w >>> 60).toNat < 0xB) || decide ((w >>> 60).toNat = 0xF)

/-- R80, R83: the `rsv` field (bits 57:56) is 0. -/
def OpWord.rsvZero (w : OpWord) : Bool :=
  decide (w &&& 0x0300000000000000#64 = 0#64)

/-- The bits of an operation word that the operation with code `op` uses (R80, R81). -/
def OpWord.usedBits (op : Nat) : OpWord :=
  match op with
  | 0x1 | 0x2 => 0xFF000000FFFFFFFF#64
  | 0x3 | 0x4 | 0x5 | 0x6 | 0x7 | 0x8 | 0xA => 0xFF00000000000000#64
  | 0x9 => 0xF3FFFFFF00000000#64
  | _ => 0xF300000000000000#64

/-- R80: the fields the operation does not use are 0, "in the canonical spelling". -/
def OpWord.unusedZero (w : OpWord) : Bool :=
  decide (w &&& OpWord.usedBits (w >>> 60).toNat = w)

/-- The word is not reserved (R83). -/
def OpWord.wellFormed (w : OpWord) : Bool := OpWord.opAllowed w && OpWord.rsvZero w

/-- The word is the canonical spelling of an operation (R80). -/
def OpWord.canonical (w : OpWord) : Bool := OpWord.wellFormed w && OpWord.unusedZero w

end Sys2Proof
end

