-- ==== Sys2Proof/Decode.lean ====
section
/-! DEFINITION. The operation word: the operation codes (R81), its fields (R80), the decoder, total on every word and refusing the reserved ones by
name (R81, R83), and the encoder, which gives the canonical spelling (R80). -/

namespace Sys2Proof

/-- The operation code of R81. -/
def Instr.opcode : Instr → BitVec 4
  | .nop => 0x0
  | .fall _ _ => 0x1
  | .rise _ _ => 0x2
  | .rdFlags _ => 0x3
  | .rdRaw _ => 0x4
  | .clrFlags _ => 0x5
  | .pwrOn _ => 0x6
  | .pwrOff _ => 0x7
  | .rdCfg _ => 0x8
  | .attach _ _ _ => 0x9
  | .detach _ => 0xA
  | .reset => 0xF

/-- The slot an operation names, where it names one. No operation names two (R20); ATTACH chooses its own. -/
def Instr.slot? : Instr → Option SlotIndex
  | .nop => none
  | .fall i _ => some i
  | .rise i _ => some i
  | .rdFlags i => some i
  | .rdRaw i => some i
  | .clrFlags i => some i
  | .pwrOn i => some i
  | .pwrOff i => some i
  | .rdCfg i => some i
  | .attach _ _ _ => none
  | .detach i => some i
  | .reset => none

/-- `op`, bits 63:60 (R80). -/
def opField (w : OpWord) : BitVec 4 := w.extractLsb' 60 4

/-- `slot`, bits 59:58, "used as it stands, an unsigned index" (R80, R82). -/
def slotField (w : OpWord) : SlotIndex := (w.extractLsb' 58 2).toFin

/-- `rsv`, bits 57:56 (R80). -/
def rsvField (w : OpWord) : BitVec 2 := w.extractLsb' 56 2

/-- `sig`, bits 55:48 (R80). -/
def sigField (w : OpWord) : PinNumber := w.extractLsb' 48 8

/-- `pwr`, bits 47:40 (R80). -/
def pwrField (w : OpWord) : PinNumber := w.extractLsb' 40 8

/-- `typ`, bits 39:32 (R80). -/
def typField (w : OpWord) : SensorCode := w.extractLsb' 32 8

/-- `ts`, bits 31:0 (R80). -/
def tsField (w : OpWord) : Timestamp := w.extractLsb' 0 32

/-- Why a word is reserved (R83). -/
inductive ReservedWord where
  /-- `op` is `0xB`, `0xC`, `0xD` or `0xE`. -/
  | reservedOp
  /-- `rsv` is not 0. -/
  | reservedField
  deriving DecidableEq, Repr

/-- What a word decodes to. -/
inductive Decoded where
  | instr (i : Instr)
  | reserved (why : ReservedWord)
  deriving DecidableEq, Repr

/-- The operation a word with `rsv = 0` selects (R81), operands as R82 says; a field the operation does not use is
ignored (R80). -/
def decodeOp (w : OpWord) : Decoded :=
  match (opField w).toNat with
  | 0x0 => .instr .nop
  | 0x1 => .instr (.fall (slotField w) (tsField w))
  | 0x2 => .instr (.rise (slotField w) (tsField w))
  | 0x3 => .instr (.rdFlags (slotField w))
  | 0x4 => .instr (.rdRaw (slotField w))
  | 0x5 => .instr (.clrFlags (slotField w))
  | 0x6 => .instr (.pwrOn (slotField w))
  | 0x7 => .instr (.pwrOff (slotField w))
  | 0x8 => .instr (.rdCfg (slotField w))
  | 0x9 => .instr (.attach (sigField w) (pwrField w) (typField w))
  | 0xA => .instr (.detach (slotField w))
  | 0xF => .instr .reset
  | _ => .reserved .reservedOp

/-- The decoder (R81, R83): every word decodes to an operation or is refused by name. -/
def decode (w : OpWord) : Decoded :=
  if rsvField w = 0#2 then decodeOp w else .reserved .reservedField

/-- The seven fields of R80 laid out as one word, with `rsv = 0`. -/
def layout (op : BitVec 4) (slot : SlotIndex) (sig pwr : PinNumber) (typ : SensorCode) (ts : Timestamp) : OpWord :=
  op ++ (BitVec.ofFin slot : BitVec 2) ++ 0#2 ++ sig ++ pwr ++ typ ++ ts

/-- The canonical word of an operation (R80): the fields it does not use are 0. -/
def encode (i : Instr) : OpWord :=
  match i with
  | .nop => layout i.opcode 0 0 0 0 0
  | .fall s t => layout i.opcode s 0 0 0 t
  | .rise s t => layout i.opcode s 0 0 0 t
  | .rdFlags s => layout i.opcode s 0 0 0 0
  | .rdRaw s => layout i.opcode s 0 0 0 0
  | .clrFlags s => layout i.opcode s 0 0 0 0
  | .pwrOn s => layout i.opcode s 0 0 0 0
  | .pwrOff s => layout i.opcode s 0 0 0 0
  | .rdCfg s => layout i.opcode s 0 0 0 0
  | .attach sig pwr typ => layout i.opcode 0 sig pwr typ 0
  | .detach s => layout i.opcode s 0 0 0 0
  | .reset => layout i.opcode 0 0 0 0 0

/-- `mask` of R81: the `op` and `rsv` fields. -/
def selectMask : OpWord := 0xF300000000000000#64

/-- `match` of R81 for an operation code: `op << 60`. -/
def selectMatch (op : BitVec 4) : OpWord := op.zeroExtend 64 <<< 60

/-- The operation codes that R81 gives an operation. -/
def opcodes : List (BitVec 4) := [0x0, 0x1, 0x2, 0x3, 0x4, 0x5, 0x6, 0x7, 0x8, 0x9, 0xA, 0xF]

/-- The instruction's first word, numbered as spec/opcode_table.json numbers it: one 64-bit word, the bits above
`nbits` zero. -/
def tableWord (nbits w : Nat) : OpWord := BitVec.ofNat 64 (w % 2 ^ nbits)

/-- The operation the decoder reads from a table word; none where it refuses. -/
def decodeTableWord (nbits w : Nat) : Option Instr :=
  match decode (tableWord nbits w) with
  | .instr i => some i
  | .reserved _ => none

end Sys2Proof
end

