-- ==== Sys2Proof/Machine/State.lean ====
section
/-! DEFINITION. The state of the block (10_state.md), what stands at its ports, the reset values (R44), and the reasons a
step could stop. -/

namespace Sys2Proof.Machine

/-- One slot: the fields of the table of 10_state.md section 1, but for `slotIndex`, which is hardwired to the array
index (R34) and so is no stored field (see `slotIndexBits`). -/
structure Slot where
  /-- 0 = empty, 1 = occupied (R35). -/
  occupied : Bool
  /-- The pin the sensor drives (R31). -/
  signalPin : PinNumber
  /-- The pin that switches the sensor's supply, or `PIN_NONE` (R32). -/
  powerPin : PinNumber
  /-- An opaque code (R33). -/
  sensorType : SensorCode
  /-- The signed position in the frame, -1 to 20 (R21). -/
  bitPosition : Int
  /-- The low-phase length that separates a 1 from a 0 (R22). -/
  strobeThreshold : Timestamp
  /-- The shift register of sampled bits (R23). -/
  bitAccumulator : Accumulator
  /-- The number of 1s sampled, modulo 256 (R24). -/
  parityCount : ParityCount
  /-- The timestamp of the latest FALL (R25). -/
  lastEdgeTimestamp : Timestamp
  /-- The interval of the latest edge operation (R26). -/
  edgeInterval : Timestamp
  /-- The last published reading (R27). -/
  rawValue : RawValue
  /-- R28. -/
  initialized : Bool
  /-- R29. -/
  valueAvailable : Bool
  /-- R30. -/
  parityError : Bool
  deriving DecidableEq, Repr

/-- The reset values of a slot (R44). -/
def Slot.reset : Slot where
  occupied := false
  signalPin := 0
  powerPin := 0
  sensorType := 0
  bitPosition := -1
  strobeThreshold := 0
  bitAccumulator := 0
  parityCount := 0
  lastEdgeTimestamp := 0
  edgeInterval := 0
  rawValue := 0
  initialized := false
  valueAvailable := false
  parityError := false

/-- The array `S[0]` to `S[3]` (R20). -/
structure SlotArray where
  s0 : Slot
  s1 : Slot
  s2 : Slot
  s3 : Slot
  deriving DecidableEq, Repr

/-- Every slot at its reset values (R44). -/
def SlotArray.reset : SlotArray := ⟨Slot.reset, Slot.reset, Slot.reset, Slot.reset⟩

/-- A request the block emits to the facilities outside it (00_scope.md section 6, R169, R170). -/
inductive Request where
  /-- Register the edge line of `slot` on `pin`, both edges. -/
  | onEdge (pin : PinNumber) (slot : SlotIndex)
  /-- Deregister `pin`. -/
  | cancelEdge (pin : PinNumber)
  /-- Drive the power pin `pin` to `level`. -/
  | setOutput (pin : PinNumber) (level : Bool)
  deriving DecidableEq, Repr

/-- One thing the environment does to the block at its ports (R51, R176). -/
inductive Input where
  /-- An operation word, on either side of the port (R51). -/
  | word (w : OpWord)
  /-- An edge reported on `irq[line]`, with the pin levels and the timer count of that moment (R144, R176). -/
  | irq (line : SlotIndex) (pins : PinLevels) (now : Timestamp)
  /-- The `rst` input sampled high (R190). -/
  | rst
  deriving DecidableEq, Repr

/-- The input ports in one cycle of `clk` (R176). -/
structure Cycle where
  rst : Bool
  now : Timestamp
  irq : BitVec 4
  pins : PinLevels
  opValid : Bool
  opWord : OpWord
  deriving DecidableEq, Repr

/-- The machine: the slots, which are all the state the block has (10_state.md section 1), and what stands at its ports.
`inputs` is the MODEL's own field: what the environment presents next, in the order in which the block accepts it (R58),
which the environment alone chooses (R61; notes/assumptions/1.md). -/
structure State where
  /-- `S[0]` to `S[3]` (R20). -/
  slots : SlotArray
  /-- The response word of the latest operation (`resp` of R176). -/
  resp : RespWord
  /-- The requests the latest operation emitted, in order (`reg_req`, `pwr_req` of R176). -/
  requests : List Request
  /-- What the environment presents next. -/
  inputs : List Input
  deriving DecidableEq, Repr

/-- Why the machine could stop with a fault: NO CONSTRUCTOR. "No operation can fault" (R160), so nothing raises one.
Safe: a machine that never faults claims no stop that the hardware lacks, and the spec gives every word an effect. -/
inductive Fault where
  deriving DecidableEq, Repr

/-- Why the machine could refuse an operation. -/
inductive Refusal where
  /-- Raised only by an arm of `exec` whose operation has no meaning yet; no arm does. Safe: it stops where the hardware
  goes on. -/
  | notModelled (mnemonic : String)
  deriving DecidableEq, Repr

/-- The machine right after reset: every slot at its reset values (R44), `resp` 0 and no request (R190), and nothing
presented yet (R11: a run is the operations the environment issues from here). -/
def State.reset : State where
  slots := SlotArray.reset
  resp := 0
  requests := []
  inputs := []

end Sys2Proof.Machine
end

