-- ==== Sys2Proof/Machine/Flags.lean ====
section
/-! DEFINITION. The conditions the decoder computes and every write of a flag: the gap and sampling comparisons (R107),
evenness (R76), and the set and clear of `initialized`, `valueAvailable` and `parityError`. -/

namespace Sys2Proof.Machine

/-- The interval exceeds the long gap: unsigned and strict (R92, R107). -/
def isGap (longGap interval : Timestamp) : Bool := longGap.ult interval

/-- The bit a low phase stands for: 1 when strictly shorter than the threshold, unsigned (R72, R97, R107). -/
def sampledBit (interval threshold : Timestamp) : Bool := interval.ult threshold

/-- `parityCount` is even: bit 0 is 0 (R24, R98). -/
def evenParity (n : ParityCount) : Bool := !n.getLsbD 0

/-- The publish: `rawValue`, `initialized` and `valueAvailable` in one update (R38, R98). -/
def Slot.publish (v : RawValue) (c : Slot) : Slot :=
  { c with rawValue := v, initialized := true, valueAvailable := true }

/-- A frame failed parity (R100). -/
def Slot.failParity (c : Slot) : Slot := { c with parityError := true }

/-- CLR_FLAGS clears both flags in one update (R123). -/
def Slot.clearFlags (c : Slot) : Slot := { c with valueAvailable := false, parityError := false }

/-- PWR_OFF marks the channel un-initialised (R127). -/
def Slot.uninitialize (c : Slot) : Slot := { c with initialized := false }

end Sys2Proof.Machine
end

