-- ==== Sys2Proof/Machine/Operands.lean ====
section
/-! DEFINITION. The operand forms: the slot index as bits, the pin level an edge line selects, and the layouts of the
response words (41_reader_ops.md, 42_registry_ops.md, R83). -/

namespace Sys2Proof.Machine

/-- `slotIndex` of slot `i`: the hardwired constant `i`, 2 bits (R34). -/
def slotIndexBits (i : SlotIndex) : BitVec 2 := BitVec.ofFin i

/-- `readLevel(pin)`: the level of one pin out of the pin facility's pins (R168, R176). -/
def readLevel (pins : PinLevels) (pin : PinNumber) : Bool := pins.getLsbD pin.toNat

/-- The response of RD_FLAGS: bit 0 `occupied`, bit 1 `initialized`, bit 2 `valueAvailable`, bit 3 `parityError`, the
rest zero (R121). -/
def flagsResponse (c : Slot) : RespWord :=
  0#28 ++ BitVec.ofBool c.parityError ++ BitVec.ofBool c.valueAvailable ++ BitVec.ofBool c.initialized
    ++ BitVec.ofBool c.occupied

/-- The response of RD_RAW: `rawValue` zero-extended (R122). -/
def rawResponse (c : Slot) : RespWord := c.rawValue.zeroExtend 32

/-- The response of RD_CFG: bits 7:0 `signalPin`, 15:8 `powerPin`, 23:16 `sensorType`, 25:24 `slotIndex`, the rest zero
(R124). -/
def cfgResponse (i : SlotIndex) (c : Slot) : RespWord :=
  0#6 ++ slotIndexBits i ++ c.sensorType ++ c.powerPin ++ c.signalPin

/-- The response of an ATTACH that took slot `i`: the index, zero-extended (R140). -/
def attachResponse (i : SlotIndex) : RespWord := (slotIndexBits i).zeroExtend 32

/-- The numeric codes of R161. -/
def errorBits (e : ErrorCode) : BitVec 8 :=
  match e with
  | .none => 0
  | .slotExhausted => 1
  | .initializationTimeout => 2
  | .parityError => 3
  | .noContinuationValue => 4

/-- A failure word: bit 31 set, the error code in bits 7:0 (R141, R161). -/
def failureResponse (e : ErrorCode) : RespWord := 1#1 ++ 0#23 ++ errorBits e

/-- The response to a reserved word (R83). -/
def reservedResponse : RespWord := 0xFFFFFFFF#32

end Sys2Proof.Machine
end

