-- ==== Sys2Proof/Machine/Ops.lean ====
section
/-! DEFINITION. The named operations over the slots and the ports, shared by the meanings: selecting and replacing a slot,
answering, an operation on an occupied slot, the search for a free slot, the reset of all slots, the routing of an edge
interrupt and the order of what one cycle presents. The block takes no exception (R160); what stands in that place is the
edge interrupt, which saves nothing, switches nothing and is one edge operation (R172, R173). -/

namespace Sys2Proof.Machine

/-- The slot indices in ascending order (R52). -/
def slotIndices : List SlotIndex := [0, 1, 2, 3]

/-- `S[i]`: the one place a slot is selected (R145). -/
def SlotArray.get (a : SlotArray) (i : SlotIndex) : Slot :=
  match i with
  | 0 => a.s0
  | 1 => a.s1
  | 2 => a.s2
  | 3 => a.s3

/-- `S[i] <- c`: the one place a slot is replaced; no other slot changes (R40). -/
def SlotArray.set (a : SlotArray) (i : SlotIndex) (c : Slot) : SlotArray :=
  match i with
  | 0 => { a with s0 := c }
  | 1 => { a with s1 := c }
  | 2 => { a with s2 := c }
  | 3 => { a with s3 := c }

/-- `S[i]` of a state. -/
def State.slot (s : State) (i : SlotIndex) : Slot := s.slots.get i

/-- `S[i] <- c` in a state. -/
def State.setSlot (s : State) (i : SlotIndex) (c : Slot) : State := { s with slots := s.slots.set i c }

/-- What an operation leaves at the output ports: its response word and the requests it emits (R51, R176). -/
def State.answer (s : State) (r : RespWord) (reqs : List Request) : State := { s with resp := r, requests := reqs }

/-- An operation on slot `i` that acts only where the slot is occupied: `f` changes the slot, `r` is the response and
`reqs` the requests, both read from the slot as it was. On an empty slot nothing changes, nothing is emitted and the
answer is 0 (R90, R120, R142). -/
def State.onOccupied (s : State) (i : SlotIndex) (f : Slot → Slot) (r : RespWord) (reqs : List Request) : State :=
  if (s.slot i).occupied then (s.setSlot i (f (s.slot i))).answer r reqs else s.answer 0 []

/-- The lowest free slot, none where every slot is occupied (R140, R141). -/
def SlotArray.firstFree (a : SlotArray) : Option SlotIndex := slotIndices.find? fun i => !(a.get i).occupied

/-- A fresh channel: the reset values with the three operands of ATTACH, occupied (R44, R140). -/
def Slot.attached (sig pwr : PinNumber) (typ : SensorCode) : Slot :=
  { Slot.reset with occupied := true, signalPin := sig, powerPin := pwr, sensorType := typ }

/-- One `cancelEdge` for each occupied slot, in ascending slot order (R147). -/
def SlotArray.cancels (a : SlotArray) : List Request :=
  (slotIndices.filter fun i => (a.get i).occupied).map fun i => .cancelEdge (a.get i).signalPin

/-- The sensor on this slot is powered from outside (R32, glossary). -/
def Slot.externallyPowered (c : Slot) : Bool := decide (c.powerPin = Config.pinNone)

/-- The edge operation of a level: low is FALL, high is RISE (R70, R85a, R168). -/
def edgeInstr (i : SlotIndex) (level : Bool) (t : Timestamp) : Instr := if level then .rise i t else .fall i t

/-- The operation an edge reported on `irq[i]` is: always on slot `i`, at the level of the pin its `signalPin` names, at
the timer's count (R144, R176). -/
def routeEdge (s : State) (i : SlotIndex) (pins : PinLevels) (now : Timestamp) : Instr :=
  edgeInstr i (readLevel pins (s.slot i).signalPin) now

/-- The `rst` input: every slot at its reset values, `resp` 0, no request emitted (R190). -/
def State.rstInput (s : State) : State := { s with slots := SlotArray.reset, resp := 0, requests := [] }

/-- What one cycle presents, in the order the hardware takes it: `rst` alone where it is high (R190); else the reported
edges in ascending slot order, then the reader-side word (R171). -/
def Cycle.inputs (c : Cycle) : List Input :=
  if c.rst then [.rst]
  else ((slotIndices.filter fun i => c.irq.getLsbD i.val).map fun i => Input.irq i c.pins c.now)
    ++ (if c.opValid then [Input.word c.opWord] else [])

/-- The state after one more cycle's inputs are presented behind those already waiting (R58). -/
def State.present (s : State) (c : Cycle) : State := { s with inputs := s.inputs ++ c.inputs }

end Sys2Proof.Machine
end

