-- ==== Sys2Proof/Machine/Edge.lean ====
section
/-! DEFINITION. The Channel Decoder (40_edge_ops.md): what a falling and a rising edge do to an occupied slot, and the
meanings of FALL and RISE. The two OPEN constants are arguments of the slot's functions, so that these can be run with the
reference values; the meanings pass the constants of Config. -/

namespace Sys2Proof.Machine

/-- R91, R104: the interval since the latest falling edge, modulo `2^32`. -/
def Slot.measure (t : Timestamp) (c : Slot) : Slot := { c with edgeInterval := t - c.lastEdgeTimestamp }

/-- R93, R110: the increment, saturating at 20. -/
def nextPosition (p : Int) : Int := min (p + 1) Config.overrun

/-- R94, R105, R106: half the slot's length, rounded down, less the offset, modulo `2^32`. -/
def thresholdOf (calOffset interval : Timestamp) : Timestamp := (interval >>> 1) - calOffset

/-- R94: the end of slot 0 calibrates the threshold and starts the accumulation. -/
def Slot.calibrate (calOffset : Timestamp) (c : Slot) : Slot :=
  { c with
    strobeThreshold := thresholdOf calOffset c.edgeInterval
    bitAccumulator := 0
    parityCount := 0
    bitPosition := 1 }

/-- R92, R93, R94: exactly one of the three cases of a falling edge. -/
def Slot.advance (longGap calOffset : Timestamp) (c : Slot) : Slot :=
  if isGap longGap c.edgeInterval then { c with bitPosition := 0 }
  else if c.bitPosition = 0 then c.calibrate calOffset
  else { c with bitPosition := nextPosition c.bitPosition }

/-- A falling edge at time `t` on an occupied slot: R91, then R92, R93 or R94, then R95. -/
def Slot.fall (longGap calOffset t : Timestamp) (c : Slot) : Slot :=
  { (c.measure t).advance longGap calOffset with lastEdgeTimestamp := t }

/-- R97, R108: the bit enters at bit 0, bit 19 is lost. -/
def shiftIn (acc : Accumulator) (b : Bool) : Accumulator := (acc <<< 1) ||| (BitVec.ofBool b).zeroExtend 20

/-- R97, R109: a sampled 1 is counted, modulo 256. -/
def countOne (n : ParityCount) (b : Bool) : ParityCount := if b then n + 1 else n

/-- R97: one sample. -/
def Slot.sample (c : Slot) : Slot :=
  { c with
    bitAccumulator := shiftIn c.bitAccumulator (sampledBit c.edgeInterval c.strobeThreshold)
    parityCount := countOne c.parityCount (sampledBit c.edgeInterval c.strobeThreshold) }

/-- R77: the candidate reading, `bitAccumulator[17:2]`. -/
def dataBits (acc : Accumulator) : RawValue := acc.extractLsb' 2 16

/-- R98, R99, R100: what the end of a frame does to the published fields and flags. -/
def Slot.judge (c : Slot) : Slot :=
  if evenParity c.parityCount then
    if dataBits c.bitAccumulator ≠ c.rawValue ∨ c.initialized = false then c.publish (dataBits c.bitAccumulator) else c
  else c.failParity

/-- R98 to R101: the frame is judged and the position goes to -1. -/
def Slot.complete (c : Slot) : Slot := { c.judge with bitPosition := -1 }

/-- A rising edge at time `t` on an occupied slot: R91, then R96, or R97 with R98 to R101 at position 19 and R102
elsewhere. -/
def Slot.rise (t : Timestamp) (c : Slot) : Slot :=
  if c.bitPosition ≤ 0 then c.measure t
  else if c.bitPosition = Config.frameLast then (c.measure t).sample.complete
  else (c.measure t).sample

/-- The source's one handler on an occupied slot: the level read selects the falling or the rising edge (40_edge_ops.md
section 4). -/
def Slot.edge (longGap calOffset : Timestamp) (level : Bool) (t : Timestamp) (c : Slot) : Slot :=
  if level then c.rise t else c.fall longGap calOffset t

/-- A sequence of edges, each a level and a timestamp, on an occupied slot. -/
def Slot.edges (longGap calOffset : Timestamp) : List (Bool × Timestamp) → Slot → Slot
  | [], c => c
  | (level, t) :: es, c => Slot.edges longGap calOffset es (c.edge longGap calOffset level t)

/-- FALL slot, t (R90 to R95): the answer is 0 and nothing is emitted. -/
def execFall (i : SlotIndex) (t : Timestamp) (s : State) : Host.Outcome State Fault Refusal :=
  .next (s.onOccupied i (Slot.fall Config.longGapUs Config.calOffsetUs t) 0 [])

/-- RISE slot, t (R90, R91, R96 to R102): the answer is 0 and nothing is emitted. -/
def execRise (i : SlotIndex) (t : Timestamp) (s : State) : Host.Outcome State Fault Refusal :=
  .next (s.onOccupied i (Slot.rise t) 0 [])

end Sys2Proof.Machine
end

