-- ==== Sys2Proof/Machine/Reader.lean ====
section
/-! DEFINITION. The reader operations (41_reader_ops.md): RD_FLAGS, RD_RAW, CLR_FLAGS, RD_CFG, PWR_ON, PWR_OFF. On an
empty slot each changes nothing, emits nothing and answers 0 (R120). -/

namespace Sys2Proof.Machine

/-- RD_FLAGS slot (R121). -/
def execRdFlags (i : SlotIndex) (s : State) : Host.Outcome State Fault Refusal :=
  .next (s.onOccupied i id (flagsResponse (s.slot i)) [])

/-- RD_RAW slot (R122). -/
def execRdRaw (i : SlotIndex) (s : State) : Host.Outcome State Fault Refusal :=
  .next (s.onOccupied i id (rawResponse (s.slot i)) [])

/-- CLR_FLAGS slot (R123). -/
def execClrFlags (i : SlotIndex) (s : State) : Host.Outcome State Fault Refusal :=
  .next (s.onOccupied i Slot.clearFlags 0 [])

/-- RD_CFG slot (R124). -/
def execRdCfg (i : SlotIndex) (s : State) : Host.Outcome State Fault Refusal :=
  .next (s.onOccupied i id (cfgResponse i (s.slot i)) [])

/-- R126, R127, R170: the request to drive a slot's power pin; none where the sensor is externally powered. -/
def powerRequest (level : Bool) (c : Slot) : List Request :=
  if c.externallyPowered then [] else [.setOutput c.powerPin level]

/-- R127: powering off marks the channel un-initialised, but not an externally powered one. -/
def Slot.powerOff (c : Slot) : Slot := if c.externallyPowered then c else c.uninitialize

/-- PWR_ON slot (R126). -/
def execPwrOn (i : SlotIndex) (s : State) : Host.Outcome State Fault Refusal :=
  .next (s.onOccupied i id 0 (powerRequest Config.pwrOnLevel (s.slot i)))

/-- PWR_OFF slot (R127). -/
def execPwrOff (i : SlotIndex) (s : State) : Host.Outcome State Fault Refusal :=
  .next (s.onOccupied i Slot.powerOff 0 (powerRequest (!Config.pwrOnLevel) (s.slot i)))

end Sys2Proof.Machine
end

