-- ==== Sys2Proof/Machine/Registry.lean ====
section
/-! DEFINITION. The registry operations (42_registry_ops.md): ATTACH, DETACH, NOP, RESET. -/

namespace Sys2Proof.Machine

/-- ATTACH sig, pwr, typ: the lowest free slot is loaded and occupied, or the answer is SlotExhausted and nothing changes
(R140, R141). -/
def execAttach (sig pwr : PinNumber) (typ : SensorCode) (s : State) : Host.Outcome State Fault Refusal :=
  match s.slots.firstFree with
  | none => .next (s.answer (failureResponse .slotExhausted) [])
  | some i => .next ((s.setSlot i (Slot.attached sig pwr typ)).answer (attachResponse i) [.onEdge sig i])

/-- DETACH slot: deregister, then discard the channel (R142). -/
def execDetach (i : SlotIndex) (s : State) : Host.Outcome State Fault Refusal :=
  .next (s.onOccupied i (fun _ => Slot.reset) 0 [.cancelEdge (s.slot i).signalPin])

/-- NOP (R146). -/
def execNop (s : State) : Host.Outcome State Fault Refusal := .next (s.answer 0 [])

/-- RESET: every slot at its reset values, each occupied slot's registration cancelled first (R147). -/
def execReset (s : State) : Host.Outcome State Fault Refusal :=
  .next (State.answer { s with slots := SlotArray.reset } 0 s.slots.cancels)

end Sys2Proof.Machine
end

