-- ==== Sys2Proof/Machine/Dispatch.lean ====
section
/-! DEFINITION. One arm per operation: the meaning it calls. -/

namespace Sys2Proof.Machine

def exec (i : Instr) (s : State) : Host.Outcome State Fault Refusal :=
  match i with
  | .nop => Sys2Proof.Machine.execNop s
  | .fall slot ts => Sys2Proof.Machine.execFall slot ts s
  | .rise slot ts => Sys2Proof.Machine.execRise slot ts s
  | .rdFlags slot => Sys2Proof.Machine.execRdFlags slot s
  | .rdRaw slot => Sys2Proof.Machine.execRdRaw slot s
  | .clrFlags slot => Sys2Proof.Machine.execClrFlags slot s
  | .pwrOn slot => Sys2Proof.Machine.execPwrOn slot s
  | .pwrOff slot => Sys2Proof.Machine.execPwrOff slot s
  | .rdCfg slot => Sys2Proof.Machine.execRdCfg slot s
  | .attach sig pwr typ => Sys2Proof.Machine.execAttach sig pwr typ s
  | .detach slot => Sys2Proof.Machine.execDetach slot s
  | .reset => Sys2Proof.Machine.execReset s

end Sys2Proof.Machine
end

