-- ==== Sys2Proof/Machine/Port.lean ====
section
/-! DEFINITION. What the block does with one input of its ports (R51, R176): a word is decoded and executed, a reserved
word is answered and changes nothing, a reported edge is routed to its slot's edge operation, and `rst` resets. -/

namespace Sys2Proof.Machine

/-- The operation port (R51): the decoded operation is executed; a reserved word changes no state and is answered
`0xFFFFFFFF` (R83). -/
def performWord (w : OpWord) (s : State) : Host.Outcome State Fault Refusal :=
  match decode w with
  | .instr i => exec i s
  | .reserved _ => .next (s.answer reservedResponse [])

/-- An edge interrupt: nothing is saved or masked, the routed edge operation is done whole (R144, R172, R173). -/
def performIrq (i : SlotIndex) (pins : PinLevels) (now : Timestamp) (s : State) : Host.Outcome State Fault Refusal :=
  exec (routeEdge s i pins now) s

/-- One input, taken in one step (R10). -/
def perform (x : Input) (s : State) : Host.Outcome State Fault Refusal :=
  match x with
  | .word w => performWord w s
  | .irq i pins now => performIrq i pins now s
  | .rst => .next s.rstInput

end Sys2Proof.Machine
end

