-- ==== Sys2Proof/Machine/Step.lean ====
section
/-! DEFINITION. One step: the block takes the next thing the environment presents (R58); with nothing presented, no state
changes (R11). -/

namespace Sys2Proof.Machine

/-- One step of the block (R10, R11). -/
def step (s : State) : Host.Outcome State Fault Refusal :=
  match s.inputs with
  | [] => .next s
  | x :: rest => perform x { s with inputs := rest }

/-- `s` with the table word `w` presented as the next operation word, so that `step` executes it next. -/
def State.withFetchWord (s : State) (nbits w : Nat) : State :=
  { s with inputs := .word (tableWord nbits w) :: s.inputs }

end Sys2Proof.Machine
end

