-- ==== Sys2Proof/Machine/Script.lean ====
section
/-! DEFINITION. Sequences of operations: their execution one after the other (R58), and the pseudo-operations of R85 with
their expansions (EDGE is `edgeInstr`). -/

namespace Sys2Proof.Machine

/-- The operations of a list, one after the other (R58). -/
def execAll : List Instr → State → Host.Outcome State Fault Refusal
  | [], s => .next s
  | i :: is, s =>
    match exec i s with
    | .next u => execAll is u
    | .fault r => .fault r
    | .refused r => .refused r

/-- ISINIT: the `init` bit of an RD_FLAGS response (R85c, R121). -/
def initBit (r : RespWord) : Bool := r.getLsbD 1

/-- HASNEW: the `avail` bit of an RD_FLAGS response (R85b, R121, R182). -/
def availBit (r : RespWord) : Bool := r.getLsbD 2

/-- PERR: the `perr` bit of an RD_FLAGS response (R85d, R121). -/
def perrBit (r : RespWord) : Bool := r.getLsbD 3

/-- READ s: the host's read path once initialised (R85f). -/
def readOps (i : SlotIndex) : List Instr := [.pwrOff i, .rdRaw i, .clrFlags i]

/-- The low phase of bit slot `k` of a FRAME whose slots are `len` long and whose bit `k` is `b` (R85e). -/
def frameLow (len k : Nat) (b : Bool) : Nat :=
  if k = 0 then len / 2
  else if b then len / 4
  else if k = 1 then len / 2
  else 3 * len / 4

/-- The two edge operations of bit slot `k` of a FRAME (R85e). -/
def frameSlot (i : SlotIndex) (t0 len k : Nat) (b : Bool) : List Instr :=
  [.fall i (BitVec.ofNat 32 (t0 + k * len)), .rise i (BitVec.ofNat 32 (t0 + k * len + frameLow len k b))]

/-- FRAME s, t0, T, b1 .. b19: slot 0, then one slot for each bit (R85e). -/
def frameOps (i : SlotIndex) (t0 len : Nat) (bits : List Bool) : List Instr :=
  (false :: bits).zipIdx.flatMap fun bk => frameSlot i t0 len bk.2 bk.1

/-- The 40 edges of a frame whose bit slot `k` falls at `falls k` and rises at `rises k`, slots 0 to 19 (R75, R78d). -/
def frameEdges (falls rises : Nat → Timestamp) : List (Bool × Timestamp) :=
  (List.range 20).flatMap fun k => [(false, falls k), (true, rises k)]

end Sys2Proof.Machine
end

