-- ==== Sys2Proof/Machine/Session.lean ====
section
/-! DEFINITION. The host's `tryRead` and `create` as sequences of reader operations (R180, R182). This is software outside
the block (R3): no step of the machine runs it, and the block enforces none of it. The conversion to a temperature is not
modelled (R3c); a read ends with the raw value. -/

namespace Sys2Proof.Machine

/-- How a `tryRead` ends: with the raw value, or in failure with a code of R161. -/
inductive ReadResult where
  | reading (raw : RawValue)
  | failed (e : ErrorCode)
  deriving DecidableEq, Repr

/-- Where a `tryRead` stands in the sequence of R180. -/
inductive ReadPhase where
  /-- About to look at `initialized` for the first time. -/
  | start
  | powerOn
  /-- In the bounded wait, `waited` microseconds of it counted. -/
  | poll (waited : Nat)
  | powerOff
  | readRaw
  | clear (raw : RawValue)
  | done (r : ReadResult)
  deriving DecidableEq, Repr

/-- The operation a `tryRead` on slot `i` issues next (R180). -/
def ReadPhase.op (i : SlotIndex) : ReadPhase → Option Instr
  | .start => some (.rdFlags i)
  | .powerOn => some (.pwrOn i)
  | .poll _ => some (.rdFlags i)
  | .powerOff => some (.pwrOff i)
  | .readRaw => some (.rdRaw i)
  | .clear _ => some (.clrFlags i)
  | .done _ => none

/-- Where a `tryRead` stands after the response `r`, the polling increment being `pollUs` (R180, R164). -/
def ReadPhase.onResponse (pollUs : Nat) (r : RespWord) : ReadPhase → ReadPhase
  | .start => if initBit r then .powerOff else .powerOn
  | .powerOn => .poll 0
  | .poll waited =>
    if initBit r then .powerOff
    else if Config.readTimeoutUs ≤ waited then .done (.failed .initializationTimeout)
    else .poll (waited + pollUs)
  | .powerOff => .readRaw
  | .readRaw => .clear (r.truncate 16)
  | .clear raw => .done (.reading raw)
  | .done res => .done res

/-- A `tryRead` on slot `i` from phase `p`, interleaved with the other agents: each list of `others` holds the operations
that the block accepts between the host's previous operation and its next one (R4, R58), so a frame that completes during
the wait ends it (R180). It goes on until it is done or `others` ends: a caller may abandon it (R180, R183). -/
def tryReadFrom (pollUs : Nat) (i : SlotIndex) : List (List Instr) → ReadPhase → State → ReadPhase × State
  | [], p, s => (p, s)
  | ops :: others, p, s =>
    match p.op i with
    | none => (p, s)
    | some op =>
      match execAll (ops ++ [op]) s with
      | .next u => tryReadFrom pollUs i others (p.onResponse pollUs u.resp) u
      | .fault _ => (p, s)
      | .refused _ => (p, s)

/-- A `tryRead` on slot `i` at the host's own polling increment (R180), interleaved with the operations `others`. -/
def tryRead (i : SlotIndex) (others : List (List Instr)) (s : State) : ReadPhase × State :=
  tryReadFrom Config.pollIntervalUs i others .start s

/-- What `create` makes of the response of ATTACH: failure where bit 31 is set, else the handle (R182). -/
def createResult (r : RespWord) : Option SlotIndex :=
  if r.getLsbD 31 then none else some (r.extractLsb' 0 2).toFin

end Sys2Proof.Machine
end

