-- ==== Sys2Proof/Safety.lean ====
section
/-! DEFINITION. What counts as a safe run, in the terms statements use: the invariant of the slots, what it is for an
operation to change one slot only, the hidden part of a slot, who may issue what, and the host's duties. -/

namespace Sys2Proof.Machine

/-- What every slot of a run from reset satisfies. -/
structure SlotInv (c : Slot) : Prop where
  /-- R21, R39: "At all times `-1 <= bitPosition <= 20`". -/
  position_range : -1 ≤ c.bitPosition ∧ c.bitPosition ≤ 20
  /-- R142, R147, R190: an empty slot holds the reset values in every field. -/
  empty_is_reset : c.occupied = false → c = Slot.reset
  /-- R127, R28: an externally powered channel that is not initialised has published nothing since ATTACH. -/
  external_unpublished : c.occupied = true → c.powerPin = Config.pinNone → c.initialized = false →
    c.rawValue = 0 ∧ c.valueAvailable = false
  /-- R22, R94: past position 0 the threshold comes from the calibration of a short slot 0. -/
  calibrated : 1 ≤ c.bitPosition → c.strobeThreshold + Config.calOffsetUs ≤ Config.longGapUs >>> 1

/-- Every slot satisfies `SlotInv`. -/
def State.Inv (s : State) : Prop := ∀ i : SlotIndex, SlotInv (s.slot i)

/-- From `s` to `u` slot `i` becomes `c`, no other slot changes, and the inputs still to come are the same. -/
def SlotBecomes (s u : State) (i : SlotIndex) (c : Slot) : Prop :=
  u.slot i = c ∧ (∀ j, j ≠ i → u.slot j = s.slot j) ∧ u.inputs = s.inputs

/-- From `s` to `u` no slot changes, and the inputs still to come are the same. -/
def SlotsKept (s u : State) : Prop := (∀ j, u.slot j = s.slot j) ∧ u.inputs = s.inputs

/-- In state `s` the operation loads slot `j` whole: ATTACH the lowest free slot (R140), DETACH its slot where that is
occupied (R142), RESET every slot (R147). Decisions D10, D11, D12 (notes/assumptions/17.md, notes/assumptions/5.md). -/
def Loads (op : Instr) (s : State) (j : SlotIndex) : Prop :=
  (∃ sig pwr typ, op = .attach sig pwr typ ∧ (s.slot j).occupied = false ∧ ∀ k, k < j → (s.slot k).occupied = true)
  ∨ (op = .detach j ∧ (s.slot j).occupied = true) ∨ op = .reset

/-- The six operations of 41_reader_ops.md on slot `i`. -/
def readerOps (i : SlotIndex) : List Instr :=
  [.rdFlags i, .rdRaw i, .clrFlags i, .rdCfg i, .pwrOn i, .pwrOff i]

/-- Equal but for the decoder's fields, which no reader operation returns (R43a, R125). -/
def SameButDecoder (c d : Slot) : Prop :=
  d = { c with
    bitPosition := d.bitPosition
    strobeThreshold := d.strobeThreshold
    bitAccumulator := d.bitAccumulator
    parityCount := d.parityCount
    lastEdgeTimestamp := d.lastEdgeTimestamp
    edgeInterval := d.edgeInterval }

/-- Equal but for what no rule reads between operations: `edgeInterval` (R26) and the bits of `parityCount` above bit 0
(R24, R109). -/
def SameButHidden (c d : Slot) : Prop :=
  d = { c with edgeInterval := d.edgeInterval, parityCount := d.parityCount }
    ∧ d.parityCount.getLsbD 0 = c.parityCount.getLsbD 0

/-- States whose ports agree and whose slots agree but for what is hidden. -/
def State.SameButHidden (s u : State) : Prop :=
  (∀ i, Machine.SameButHidden (s.slot i) (u.slot i)) ∧ u.resp = s.resp ∧ u.requests = s.requests ∧ u.inputs = s.inputs

/-- The number of occupied slots (R143). -/
def State.occupiedCount (s : State) : Nat := (slotIndices.filter fun i => (s.slot i).occupied).length

/-- The bit a rising edge at `t` samples: 1 where the low phase is strictly below the threshold (R72, R97). -/
def bitAt (c : Slot) (t : Timestamp) : Bool := decide (t - c.lastEdgeTimestamp < c.strobeThreshold)

/-- The accumulator after the sample at `t` (R97). -/
def accumulatorAt (c : Slot) (t : Timestamp) : Accumulator := (c.bitAccumulator <<< 1) ||| (if bitAt c t then 1 else 0)

/-- The parity count after the sample at `t` (R97). -/
def countAt (c : Slot) (t : Timestamp) : ParityCount := c.parityCount + (if bitAt c t then 1 else 0)

/-- The operation completes a parity-valid frame of slot `j` in state `s` (R98, R99). -/
def CompletesValid (i : Instr) (s : State) (j : SlotIndex) : Prop :=
  ∃ t, i = .rise j t ∧ (s.slot j).occupied = true ∧ (s.slot j).bitPosition = 19
    ∧ (countAt (s.slot j) t).getLsbD 0 = false

/-- The operation completes a frame of slot `j` in state `s` that fails parity (R100). -/
def CompletesInvalid (i : Instr) (s : State) (j : SlotIndex) : Prop :=
  ∃ t, i = .rise j t ∧ (s.slot j).occupied = true ∧ (s.slot j).bitPosition = 19
    ∧ (countAt (s.slot j) t).getLsbD 0 = true

/-- No two occupied slots name one signal pin (R199). -/
def DistinctPins (s : State) : Prop :=
  ∀ i j, i ≠ j → (s.slot i).occupied = true → (s.slot j).occupied = true → (s.slot i).signalPin ≠ (s.slot j).signalPin

/-- R167: the timestamps are the low 32 bits of a microsecond count that never decreases. -/
def FromTimer (ts : List Timestamp) : Prop :=
  ∃ times : List Nat, times.Pairwise (· ≤ ·) ∧ ts = times.map fun n => BitVec.ofNat 32 n

/-- Who issues an operation (R4, R174). -/
inductive Agent where
  | edge (i : SlotIndex)
  | reader
  deriving DecidableEq, Repr

/-- R174: which context may issue which operation. The block does not check it. -/
def Agent.mayIssue (a : Agent) (i : Instr) : Bool :=
  match a, i with
  | .edge j, .fall k _ => decide (j = k)
  | .edge j, .rise k _ => decide (j = k)
  | .edge _, _ => false
  | .reader, .fall _ _ => false
  | .reader, .rise _ _ => false
  | .reader, _ => true

/-- The host's duties towards the block (R183, R199): reader operations and DETACH name a slot it has attached; an ATTACH
gives the session pins of its own. The block does not check them. DESIGN CHOICE (notes/assumptions/8.md): R199 does not say
how far "its own pins" reaches; here `sig` must differ from `pwr` and from the signal pin of every occupied slot, and
nothing is asked of power pins that two slots share, or of one slot's signal pin that is another's power pin. -/
def hostDuty (s : State) (i : Instr) : Bool :=
  match i with
  | .attach sig pwr _ =>
    decide (sig ≠ pwr) && slotIndices.all fun j => !((s.slot j).occupied && decide ((s.slot j).signalPin = sig))
  | .fall _ _ => true
  | .rise _ _ => true
  | .nop => true
  | .reset => true
  | .rdFlags j => (s.slot j).occupied
  | .rdRaw j => (s.slot j).occupied
  | .clrFlags j => (s.slot j).occupied
  | .pwrOn j => (s.slot j).occupied
  | .pwrOff j => (s.slot j).occupied
  | .rdCfg j => (s.slot j).occupied
  | .detach j => (s.slot j).occupied

end Sys2Proof.Machine
end

