-- ==== Sys2Proof/Certificates/Slice0/Obligations.lean ====
section
/-! DEFINITION. The statements for the provers. A statement whose docstring names a decision `D<n>` of
92_eei_decisions.md, or an entry of notes/assumptions, rests on a choice there; each such statement has basis 'derived' in
OBLIGATIONS.json. -/

open Sys2Proof Sys2Proof.Machine

/-! ### Reset -/

/-- The values of R44. The zeros are decision D10, the spec's own choice; the ports' values are notes/assumptions/2.md. -/
def Obligations.ResetLoadsEverySlot : Prop :=
  (∀ i, State.reset.slot i =
    { occupied := false, signalPin := 0, powerPin := 0, sensorType := 0, bitPosition := -1, strobeThreshold := 0,
      bitAccumulator := 0, parityCount := 0, lastEdgeTimestamp := 0, edgeInterval := 0, rawValue := 0,
      initialized := false, valueAvailable := false, parityError := false })
  ∧ State.reset.resp = 0 ∧ State.reset.requests = []

/-- R191: after reset every read answers 0, every edge is dropped, and ATTACH answers 0, 1, 2, 3 and then SlotExhausted.
Decisions D10, D11, D12, D16. -/
def Obligations.ProgramViewAfterReset : Prop :=
  (∀ i op, op ∈ readerOps i → ∃ u, exec op State.reset = .next u ∧ u.resp = 0 ∧ SlotsKept State.reset u)
  ∧ (∀ i t lvl, ∃ u, exec (edgeInstr i lvl t) State.reset = .next u ∧ SlotsKept State.reset u)
  ∧ (∀ a b c d e : PinNumber × PinNumber × SensorCode, ∃ u1 u2 u3 u4 u5,
      exec (.attach a.1 a.2.1 a.2.2) State.reset = .next u1 ∧ u1.resp = 0
      ∧ exec (.attach b.1 b.2.1 b.2.2) u1 = .next u2 ∧ u2.resp = 1
      ∧ exec (.attach c.1 c.2.1 c.2.2) u2 = .next u3 ∧ u3.resp = 2
      ∧ exec (.attach d.1 d.2.1 d.2.2) u3 = .next u4 ∧ u4.resp = 3
      ∧ exec (.attach e.1 e.2.1 e.2.2) u4 = .next u5 ∧ u5.resp = 0x80000001#32 ∧ u5.slots = u4.slots)

/-- R147: RESET. Decision D10. -/
def Obligations.ResetOperationEmptiesEverySlot : Prop :=
  ∀ s : State, ∃ u, exec .reset s = .next u ∧ (∀ i, u.slot i = Slot.reset) ∧ u.resp = 0 ∧ u.inputs = s.inputs
    ∧ u.requests = ((List.finRange 4).filter fun i => (s.slot i).occupied).map
        fun i => Request.cancelEdge (s.slot i).signalPin

/-- R190: the `rst` input resets every slot, answers 0 and emits nothing. Decision D10. -/
def Obligations.RstInputEmptiesEverySlot : Prop :=
  ∀ (s : State) (rest : List Input), s.inputs = .rst :: rest →
    ∃ u, step s = .next u ∧ (∀ i, u.slot i = Slot.reset) ∧ u.resp = 0 ∧ u.requests = [] ∧ u.inputs = rest

/-! ### The operation word -/

/-- The encoding of every operation is canonical and decodes to it, every operand at every value (R80 to R82; the
encoding is decision D15). -/
def Obligations.DecodeEncodeRoundTrip : Prop :=
  ∀ i : Instr, i.wellFormed = true ∧ OpWord.canonical (encode i) = true ∧ decode (encode i) = .instr i

/-- Every canonical word is the encoding of what it decodes to, so no canonical word is lost (R80, R81; D15). -/
def Obligations.CanonicalWordsReencode : Prop :=
  ∀ w : OpWord, OpWord.canonical w = true → ∃ i, decode w = .instr i ∧ encode i = w

/-- "A field an operation does not use is ignored" (R80; D15): words that agree on the bits their operation uses decode
alike. -/
def Obligations.UnusedFieldsAreIgnored : Prop :=
  ∀ w v : OpWord, w &&& OpWord.usedBits (w >>> 60).toNat = v &&& OpWord.usedBits (w >>> 60).toNat → decode w = decode v

/-- R81: a word selects an operation exactly where `word & mask = match` (D15). -/
def Obligations.OpcodeRowsSelect : Prop :=
  (∀ (w : OpWord) (i : Instr), decode w = .instr i → w &&& 0xF300000000000000#64 = i.opcode.zeroExtend 64 <<< 60)
  ∧ (∀ (w : OpWord) (i : Instr), w &&& 0xF300000000000000#64 = i.opcode.zeroExtend 64 <<< 60 →
      ∃ j, decode w = .instr j ∧ j.opcode = i.opcode)

/-- R83: the decoder refuses exactly the reserved words (D15). -/
def Obligations.ReservedWordsAreRefused : Prop :=
  ∀ w : OpWord, (∃ why, decode w = .reserved why) ↔
    (0xB ≤ (w >>> 60).toNat ∧ (w >>> 60).toNat ≤ 0xE) ∨ w.extractLsb' 56 2 ≠ 0#2

/-- The example words of 95_test_vectors.md section 2.5 (D15): a sanity statement. -/
def Obligations.WordsFromTheSpecDecode : Prop :=
  decode 0x1C000000FFFFFFFF#64 = .instr (.fall 3 0xFFFFFFFF#32)
  ∧ decode 0x240000000000006E#64 = .instr (.rise 1 110#32)
  ∧ decode 0x3800000000000000#64 = .instr (.rdFlags 2)
  ∧ decode 0x40000000DEADBEEF#64 = .instr (.rdRaw 0)
  ∧ decode 0x9C07FF0200000000#64 = .instr (.attach 7 0xFF 2)
  ∧ decode 0xA800000000000000#64 = .instr (.detach 2)
  ∧ decode 0x3100000000000000#64 = .reserved .reservedField

/-! ### The step -/

/-- A step runs the decoded operation: the next word is taken from the inputs and its operation executed (R10, R51; the
port is decision D14, the list of inputs notes/assumptions/1.md). -/
def Obligations.StepRunsDecodedOperation : Prop :=
  ∀ (s : State) (w : OpWord) (rest : List Input) (i : Instr),
    s.inputs = .word w :: rest → decode w = .instr i → step s = exec i { s with inputs := rest }

/-- R83: a reserved word changes no state and is answered `0xFFFFFFFF`. Decision D15; notes/assumptions/6.md. -/
def Obligations.StepAnswersReservedWord : Prop :=
  ∀ (s : State) (w : OpWord) (rest : List Input) (why : ReservedWord),
    s.inputs = .word w :: rest → decode w = .reserved why →
      step s = .next { s with resp := 0xFFFFFFFF#32, requests := [], inputs := rest }

/-- R144, R168, R172, R176: an edge on `irq[i]` is one edge operation on slot `i`, FALL or RISE by the level of the pin its
`signalPin` names. Decisions D1, D20. -/
def Obligations.IrqIsOneRoutedEdge : Prop :=
  ∀ (s : State) (i : SlotIndex) (pins : PinLevels) (now : Timestamp) (rest : List Input),
    s.inputs = .irq i pins now :: rest →
      step s = exec (if pins.getLsbD (s.slot i).signalPin.toNat then .rise i now else .fall i now)
        { s with inputs := rest }

/-- R11: with no operation, no state changes. The list of inputs is notes/assumptions/1.md; that the ports too keep the
latest operation's outputs while no operation is accepted is the model's choice of notes/assumptions/2.md, not R11's. -/
def Obligations.NoOperationNoChange : Prop := ∀ s : State, s.inputs = [] → step s = .next s

/-- R160: no operation can fault and every operation word has a defined effect, reserved words included
(notes/assumptions/6.md). -/
def Obligations.EveryStepAnswersNext : Prop := ∀ s : State, ∃ u, step s = .next u

/-- R171, R190: one cycle presents `rst` alone, or the reported edges in strictly ascending slot order, each once, and
after them the reader-side word. Decisions D10, D17. -/
def Obligations.CycleOrdersItsInputs : Prop :=
  ∀ c : Cycle,
    (c.rst = true → c.inputs = [.rst])
    ∧ (c.rst = false →
        (∀ x, x ∈ c.inputs ↔ (∃ i : SlotIndex, c.irq.getLsbD i.val = true ∧ x = .irq i c.pins c.now)
          ∨ (c.opValid = true ∧ x = .word c.opWord))
        ∧ c.inputs.Pairwise fun x y =>
            (∃ (i j : SlotIndex), i < j ∧ x = .irq i c.pins c.now ∧ y = .irq j c.pins c.now)
            ∨ (∃ i : SlotIndex, x = .irq i c.pins c.now ∧ y = .word c.opWord))

/-! ### FALL and RISE -/

/-- R91: FALL and RISE alike begin with the interval since the latest falling edge. -/
def Obligations.EdgesMeasureTheInterval : Prop :=
  ∀ (s : State) (i : SlotIndex) (t : Timestamp) (lvl : Bool), (s.slot i).occupied = true →
    ∃ u, exec (edgeInstr i lvl t) s = .next u ∧ (u.slot i).edgeInterval = t - (s.slot i).lastEdgeTimestamp

/-- R104, R112: at a true time `elapsed` microseconds after the latest falling edge, an edge measures `elapsed` modulo
`2^32`, so `elapsed` itself where that is below `2^32`, wherever the timer wraps. The width 32 is decision D2. -/
def Obligations.ElapsedTimeIsMeasured : Prop :=
  ∀ (s : State) (i : SlotIndex) (last elapsed : Nat) (lvl : Bool), (s.slot i).occupied = true →
    (s.slot i).lastEdgeTimestamp = BitVec.ofNat 32 last →
    ∃ u, exec (edgeInstr i lvl (BitVec.ofNat 32 (last + elapsed))) s = .next u
      ∧ (u.slot i).edgeInterval.toNat = elapsed % 2 ^ 32
      ∧ (elapsed < 2 ^ 32 → (u.slot i).edgeInterval.toNat = elapsed)

/-- R92, for every value of `LONG_GAP_US`: a gap restarts the frame at position 0 and touches nothing else but the
interval (R91) and the recorded timestamp (R95). That this edge leaves threshold, accumulator and count alone is the spec's
own reading, decision D5 (conflict C1; notes/assumptions/16.md). -/
def Obligations.FallGapRestartsFrame : Prop :=
  ∀ (longGap calOffset t : Timestamp) (c : Slot), longGap < t - c.lastEdgeTimestamp →
    c.fall longGap calOffset t =
      { c with edgeInterval := t - c.lastEdgeTimestamp, bitPosition := 0, lastEdgeTimestamp := t }

/-- FALL whole, at the block's own constants: gap, calibration or advance (R92 to R95); the answer is 0 and nothing is
emitted. Decisions D5, D7, D9, D15. -/
def Obligations.FallTakesOneOfThreeCases : Prop :=
  ∀ (s : State) (i : SlotIndex) (t : Timestamp), (s.slot i).occupied = true →
    ∃ u, exec (.fall i t) s = .next u ∧ u.resp = 0 ∧ u.requests = []
      ∧ SlotBecomes s u i
        (if Config.longGapUs < t - (s.slot i).lastEdgeTimestamp then
          { s.slot i with
            edgeInterval := t - (s.slot i).lastEdgeTimestamp
            bitPosition := 0
            lastEdgeTimestamp := t }
        else if (s.slot i).bitPosition = 0 then
          { s.slot i with
            edgeInterval := t - (s.slot i).lastEdgeTimestamp
            strobeThreshold := ((t - (s.slot i).lastEdgeTimestamp) >>> 1) - Config.calOffsetUs
            bitAccumulator := 0
            parityCount := 0
            bitPosition := 1
            lastEdgeTimestamp := t }
        else
          { s.slot i with
            edgeInterval := t - (s.slot i).lastEdgeTimestamp
            bitPosition := min ((s.slot i).bitPosition + 1) 20
            lastEdgeTimestamp := t })

/-- R105, R106: the calibrated threshold in plain numbers, for every value of the two OPEN constants: half the interval
rounded down less the offset, wrapping where that would be negative. Decisions D5, D9; notes/assumptions/7.md. -/
def Obligations.CalibrationThresholdValue : Prop :=
  ∀ (longGap calOffset t : Timestamp) (c : Slot), c.bitPosition = 0 → t - c.lastEdgeTimestamp ≤ longGap →
    (c.fall longGap calOffset t).strobeThreshold.toNat =
      if calOffset.toNat ≤ (t - c.lastEdgeTimestamp).toNat / 2 then
        (t - c.lastEdgeTimestamp).toNat / 2 - calOffset.toNat
      else 2 ^ 32 - (calOffset.toNat - (t - c.lastEdgeTimestamp).toNat / 2)

/-- R95: FALL records its timestamp and writes no flag, and of all the operations only FALL writes `lastEdgeTimestamp`
during the life of an occupied slot. ATTACH, DETACH and RESET load the slot with 0 (R37, R140, R142, R147), decisions D10,
D11 and D12 (`Loads`; notes/assumptions/5.md, 17.md). -/
def Obligations.OnlyFallRecordsTimestamp : Prop :=
  (∀ (s : State) (i : SlotIndex) (t : Timestamp), (s.slot i).occupied = true →
    ∃ u, exec (.fall i t) s = .next u ∧ (u.slot i).lastEdgeTimestamp = t
      ∧ (u.slot i).initialized = (s.slot i).initialized ∧ (u.slot i).valueAvailable = (s.slot i).valueAvailable
      ∧ (u.slot i).parityError = (s.slot i).parityError)
  ∧ (∀ (op : Instr) (s u : State) (j : SlotIndex), exec op s = .next u → ¬ Loads op s j →
      (u.slot j).lastEdgeTimestamp ≠ (s.slot j).lastEdgeTimestamp → ∃ t, op = .fall j t)

/-- R96: at position -1 or 0 a rising edge changes nothing but `edgeInterval`. -/
def Obligations.RiseOutsideSamplingPosition : Prop :=
  ∀ (s : State) (i : SlotIndex) (t : Timestamp), (s.slot i).occupied = true → (s.slot i).bitPosition ≤ 0 →
    ∃ u, exec (.rise i t) s = .next u
      ∧ SlotBecomes s u i { s.slot i with edgeInterval := t - (s.slot i).lastEdgeTimestamp }

/-- R97, R102: at a sampling position other than 19 a rising edge samples one bit and does nothing more. The widths of the
accumulator and of the count are decision D8. -/
def Obligations.RiseSamplesOneBit : Prop :=
  ∀ (s : State) (i : SlotIndex) (t : Timestamp), (s.slot i).occupied = true → 1 ≤ (s.slot i).bitPosition →
    (s.slot i).bitPosition ≠ 19 →
    ∃ u, exec (.rise i t) s = .next u
      ∧ SlotBecomes s u i
        { s.slot i with
          edgeInterval := t - (s.slot i).lastEdgeTimestamp
          bitAccumulator := accumulatorAt (s.slot i) t
          parityCount := countAt (s.slot i) t }

/-- R98, with R91, R97 and R101: a parity-valid frame with a new value, or on an un-initialised channel, is published in
one update. The place of the data bits and the test of validity are decision D6 (notes/assumptions/16.md), the widths of
the accumulator and of the count decision D8 (notes/assumptions/17.md). -/
def Obligations.RisePublishesNewReading : Prop :=
  ∀ (s : State) (i : SlotIndex) (t : Timestamp), (s.slot i).occupied = true → (s.slot i).bitPosition = 19 →
    (countAt (s.slot i) t).getLsbD 0 = false →
    (accumulatorAt (s.slot i) t).extractLsb' 2 16 ≠ (s.slot i).rawValue ∨ (s.slot i).initialized = false →
    ∃ u, exec (.rise i t) s = .next u
      ∧ SlotBecomes s u i
        { s.slot i with
          edgeInterval := t - (s.slot i).lastEdgeTimestamp
          bitAccumulator := accumulatorAt (s.slot i) t
          parityCount := countAt (s.slot i) t
          rawValue := (accumulatorAt (s.slot i) t).extractLsb' 2 16
          initialized := true
          valueAvailable := true
          bitPosition := -1 }

/-- R99, with R91, R97 and R101: a parity-valid frame that repeats the stored value on an initialised channel publishes
nothing; that the source's algorithm wins here over its test sentence is conflict C4. The place of the data bits and the
test of validity are decision D6 (notes/assumptions/16.md), the widths of the accumulator and of the count decision D8
(notes/assumptions/17.md). -/
def Obligations.RiseKeepsRepeatedReading : Prop :=
  ∀ (s : State) (i : SlotIndex) (t : Timestamp), (s.slot i).occupied = true → (s.slot i).bitPosition = 19 →
    (countAt (s.slot i) t).getLsbD 0 = false →
    (accumulatorAt (s.slot i) t).extractLsb' 2 16 = (s.slot i).rawValue → (s.slot i).initialized = true →
    ∃ u, exec (.rise i t) s = .next u
      ∧ SlotBecomes s u i
        { s.slot i with
          edgeInterval := t - (s.slot i).lastEdgeTimestamp
          bitAccumulator := accumulatorAt (s.slot i) t
          parityCount := countAt (s.slot i) t
          bitPosition := -1 }

/-- R100, with R91, R97 and R101: a frame with odd parity sets `parityError` and is discarded. The test of validity over
all the samples is decision D6 (notes/assumptions/16.md), the widths of the accumulator and of the count decision D8
(notes/assumptions/17.md). -/
def Obligations.RiseFlagsParityError : Prop :=
  ∀ (s : State) (i : SlotIndex) (t : Timestamp), (s.slot i).occupied = true → (s.slot i).bitPosition = 19 →
    (countAt (s.slot i) t).getLsbD 0 = true →
    ∃ u, exec (.rise i t) s = .next u
      ∧ SlotBecomes s u i
        { s.slot i with
          edgeInterval := t - (s.slot i).lastEdgeTimestamp
          bitAccumulator := accumulatorAt (s.slot i) t
          parityCount := countAt (s.slot i) t
          parityError := true
          bitPosition := -1 }

/-- R81, R90: FALL and RISE answer 0 and emit nothing, on any slot. The response word is decision D15, the half about an
empty slot decision D12 (notes/assumptions/5.md). -/
def Obligations.EdgesAnswerZero : Prop :=
  ∀ (s : State) (i : SlotIndex) (t : Timestamp) (lvl : Bool),
    ∃ u, exec (edgeInstr i lvl t) s = .next u ∧ u.resp = 0 ∧ u.requests = [] ∧ u.inputs = s.inputs
      ∧ ∀ j, j ≠ i → u.slot j = s.slot j

/-- R104 and the source's timer property: a sequence of edges shifted in time, across the timer's wrap or not, has the same
effect but for the recorded timestamp, shifted alike. The width 32 is decision D2. -/
def Obligations.TimerWrapIsInvisible : Prop :=
  ∀ (longGap calOffset shift : Timestamp) (es : List (Bool × Timestamp)) (c : Slot),
    Slot.edges longGap calOffset (es.map fun e => (e.1, e.2 + shift))
        { c with lastEdgeTimestamp := c.lastEdgeTimestamp + shift } =
      { Slot.edges longGap calOffset es c with
        lastEdgeTimestamp := (Slot.edges longGap calOffset es c).lastEdgeTimestamp + shift }

/-- A sequence of edges reported for one occupied slot acts on that slot as the decoder does and on no other (R144, R177).
Decisions D5, D7, D9. -/
def Obligations.EdgeSequenceRunsOnItsSlot : Prop :=
  ∀ (es : List (Bool × Timestamp)) (s : State) (i : SlotIndex), (s.slot i).occupied = true →
    ∃ u, execAll (es.map fun e => edgeInstr i e.1 e.2) s = .next u
      ∧ SlotBecomes s u i (Slot.edges Config.longGapUs Config.calOffsetUs es (s.slot i))

/-- R74 to R78 and the source's first two testable properties: a frame of 20 bit slots, begun from idle or by a gap, every
later slot at most `LONG_GAP_US` long, one rising edge in each slot, is judged by the parity of the 19 sampled bits; a
valid one leaves `rawValue` at its 16 data bits, most significant first in slots 2 to 17, an invalid one sets `parityError`
and leaves the published fields (R95, R98 to R101). A valid frame that repeats the value leaves `valueAvailable` as it was,
conflict C4 (notes/assumptions/17.md). For every value of the two OPEN constants. Decisions D5, D6, D9
(notes/assumptions/7.md, 16.md). -/
def Obligations.FrameDecodes : Prop :=
  ∀ (longGap calOffset : Timestamp) (falls rises : Nat → Timestamp) (c u : Slot) (bit : Nat → Bool) (v : RawValue),
    (c.bitPosition = -1 ∨ longGap < falls 0 - c.lastEdgeTimestamp) →
    (∀ k, k < 19 → falls (k + 1) - falls k ≤ longGap) →
    (∀ k, bit k = decide (rises k - falls k < ((falls 1 - falls 0) >>> 1) - calOffset)) →
    (∀ k, k < 16 → v.getLsbD k = bit (17 - k)) →
    u = Slot.edges longGap calOffset (frameEdges falls rises) c →
    u.bitPosition = -1 ∧ u.lastEdgeTimestamp = falls 19 ∧ u.occupied = c.occupied
    ∧ u.signalPin = c.signalPin ∧ u.powerPin = c.powerPin ∧ u.sensorType = c.sensorType
    ∧ (((List.range 19).filter fun k => bit (k + 1)).length % 2 = 0 →
        u.rawValue = v ∧ u.initialized = true ∧ u.parityError = c.parityError
        ∧ u.valueAvailable = (c.valueAvailable || !c.initialized || decide (v ≠ c.rawValue)))
    ∧ (((List.range 19).filter fun k => bit (k + 1)).length % 2 = 1 →
        u.rawValue = c.rawValue ∧ u.initialized = c.initialized ∧ u.valueAvailable = c.valueAvailable
        ∧ u.parityError = true)

/-- R193: after ATTACH rising edges are ignored and the first falling edge, whatever its time, starts slot 0. Decisions D7,
D10. -/
def Obligations.FirstFallAfterAttach : Prop :=
  ∀ (longGap calOffset t : Timestamp) (sig pwr : PinNumber) (typ : SensorCode) (rises : List Timestamp),
    (Slot.edges longGap calOffset (rises.map fun r => (true, r)) (Slot.attached sig pwr typ)).bitPosition = -1
    ∧ (Slot.edges longGap calOffset ((rises.map fun r => (true, r)) ++ [(false, t)])
        (Slot.attached sig pwr typ)).bitPosition = 0

/-! ### The reader operations -/

/-- R90, R120, R142: on an empty slot every operation that names it changes no slot, emits nothing and answers 0. Decision
D12; notes/assumptions/5.md. -/
def Obligations.EmptySlotIgnoresOperations : Prop :=
  ∀ (s : State) (op : Instr) (i : SlotIndex), op.slot? = some i → (s.slot i).occupied = false →
    exec op s = .next { s with resp := 0, requests := [] }

/-- R121: RD_FLAGS answers the four flags in bits 0 to 3, zeros above, and changes no slot. Decision D21. -/
def Obligations.ReadFlagsAnswersTheFlags : Prop :=
  ∀ (s : State) (i : SlotIndex), (s.slot i).occupied = true →
    ∃ u, exec (.rdFlags i) s = .next u ∧ SlotsKept s u ∧ u.requests = []
      ∧ u.resp.getLsbD 0 = (s.slot i).occupied ∧ u.resp.getLsbD 1 = (s.slot i).initialized
      ∧ u.resp.getLsbD 2 = (s.slot i).valueAvailable ∧ u.resp.getLsbD 3 = (s.slot i).parityError
      ∧ u.resp >>> 4 = 0

/-- R122: RD_RAW answers `rawValue` zero-extended, whatever the flags are, and changes no slot. That it does so before any
publish too, where U3 would leave the value free, is the model's choice of notes/assumptions/10.md (decision D10). -/
def Obligations.ReadRawAnswersTheReading : Prop :=
  ∀ (s : State) (i : SlotIndex), (s.slot i).occupied = true →
    ∃ u, exec (.rdRaw i) s = .next u ∧ SlotsKept s u ∧ u.requests = []
      ∧ u.resp.toNat = (s.slot i).rawValue.toNat

/-- R123: CLR_FLAGS clears `valueAvailable` and `parityError` together and answers 0. -/
def Obligations.ClearFlagsClearsBoth : Prop :=
  ∀ (s : State) (i : SlotIndex), (s.slot i).occupied = true →
    ∃ u, exec (.clrFlags i) s = .next u ∧ u.resp = 0 ∧ u.requests = []
      ∧ SlotBecomes s u i { s.slot i with valueAvailable := false, parityError := false }

/-- R124: RD_CFG answers the configuration and changes no slot. Decision D15. -/
def Obligations.ReadConfigurationAnswersThePins : Prop :=
  ∀ (s : State) (i : SlotIndex), (s.slot i).occupied = true →
    ∃ u, exec (.rdCfg i) s = .next u ∧ SlotsKept s u ∧ u.requests = []
      ∧ u.resp.extractLsb' 0 8 = (s.slot i).signalPin ∧ u.resp.extractLsb' 8 8 = (s.slot i).powerPin
      ∧ u.resp.extractLsb' 16 8 = (s.slot i).sensorType ∧ (u.resp.extractLsb' 24 2).toNat = i.val ∧ u.resp >>> 26 = 0

/-- R126: PWR_ON changes no slot, answers 0 and asks for the power-on level, or for nothing where the sensor is externally
powered. Decisions D13, D22. -/
def Obligations.PowerOnRequestsTheLevel : Prop :=
  ∀ (s : State) (i : SlotIndex), (s.slot i).occupied = true →
    ∃ u, exec (.pwrOn i) s = .next u ∧ SlotsKept s u ∧ u.resp = 0
      ∧ u.requests = if (s.slot i).powerPin = 0xFF#8 then [] else
          [.setOutput (s.slot i).powerPin Config.pwrOnLevel]

/-- R127: PWR_OFF asks for the complement of the power-on level and clears `initialized`, or does nothing at all where the
sensor is externally powered; it answers 0. The complement level is decision D22 (notes/assumptions/3.md); that
`initialized` is cleared only with a power pin is the spec's own reading, conflict C12. -/
def Obligations.PowerOffForgetsInitialized : Prop :=
  ∀ (s : State) (i : SlotIndex), (s.slot i).occupied = true →
    ∃ u, exec (.pwrOff i) s = .next u ∧ u.resp = 0
      ∧ ((s.slot i).powerPin = Config.pinNone → u.requests = [] ∧ SlotsKept s u)
      ∧ ((s.slot i).powerPin ≠ Config.pinNone →
          u.requests = [.setOutput (s.slot i).powerPin (!Config.pwrOnLevel)]
          ∧ SlotBecomes s u i { s.slot i with initialized := false })

/-- R125: no reader operation writes `rawValue`, sets a flag, or writes or reads a decoder field. -/
def Obligations.ReaderNeverTouchesTheDecoder : Prop :=
  ∀ (s u : State) (op : Instr) (i : SlotIndex), op ∈ readerOps i → exec op s = .next u →
    (∀ j, (u.slot j).rawValue = (s.slot j).rawValue
      ∧ ((u.slot j).initialized = true → (s.slot j).initialized = true)
      ∧ ((u.slot j).valueAvailable = true → (s.slot j).valueAvailable = true)
      ∧ ((u.slot j).parityError = true → (s.slot j).parityError = true)
      ∧ (u.slot j).bitPosition = (s.slot j).bitPosition
      ∧ (u.slot j).strobeThreshold = (s.slot j).strobeThreshold
      ∧ (u.slot j).bitAccumulator = (s.slot j).bitAccumulator
      ∧ (u.slot j).parityCount = (s.slot j).parityCount
      ∧ (u.slot j).lastEdgeTimestamp = (s.slot j).lastEdgeTimestamp
      ∧ (u.slot j).edgeInterval = (s.slot j).edgeInterval)
    ∧ (∀ s' u', (∀ j, SameButDecoder (s.slot j) (s'.slot j)) → exec op s' = .next u' →
        u'.resp = u.resp ∧ u'.requests = u.requests ∧ ∀ j, SameButDecoder (u.slot j) (u'.slot j))

/-! ### The registry operations -/

/-- R140: ATTACH loads the lowest free slot with the reset values and its three operands, answers the index and asks for
the registration. Decisions D10, D11, D15. -/
def Obligations.AttachTakesTheLowestFreeSlot : Prop :=
  ∀ (s : State) (sig pwr : PinNumber) (typ : SensorCode) (i : SlotIndex),
    (s.slot i).occupied = false → (∀ j, j < i → (s.slot j).occupied = true) →
    ∃ u, exec (.attach sig pwr typ) s = .next u ∧ u.resp.toNat = i.val ∧ u.requests = [.onEdge sig i]
      ∧ SlotBecomes s u i
        { occupied := true, signalPin := sig, powerPin := pwr, sensorType := typ, bitPosition := -1,
          strobeThreshold := 0, bitAccumulator := 0, parityCount := 0, lastEdgeTimestamp := 0, edgeInterval := 0,
          rawValue := 0, initialized := false, valueAvailable := false, parityError := false }

/-- R141: ATTACH with every slot occupied answers SlotExhausted, changes no slot and emits nothing. Decision D16. -/
def Obligations.AttachFailsWhenFull : Prop :=
  ∀ (s : State) (sig pwr : PinNumber) (typ : SensorCode), (∀ i, (s.slot i).occupied = true) →
    exec (.attach sig pwr typ) s = .next { s with resp := 0x80000001#32, requests := [] }

/-- R142: DETACH of an occupied slot cancels its registration and discards the channel. Decisions D10, D11. -/
def Obligations.DetachReleasesTheSlot : Prop :=
  ∀ (s : State) (i : SlotIndex), (s.slot i).occupied = true →
    ∃ u, exec (.detach i) s = .next u ∧ u.resp = 0 ∧ u.requests = [.cancelEdge (s.slot i).signalPin]
      ∧ SlotBecomes s u i Slot.reset

/-- R146: NOP. Decision D15. -/
def Obligations.NopAnswersZero : Prop :=
  ∀ s : State, exec .nop s = .next { s with resp := 0, requests := [] }

/-- R143: the number of occupied slots goes up by one at a successful ATTACH, down by one at a DETACH that finds its slot
occupied, to 0 at RESET, and is otherwise kept; it never exceeds 4. Decisions D10, D11, D12, D16. -/
def Obligations.OccupiedSlotsAreCounted : Prop :=
  ∀ (op : Instr) (s u : State), exec op s = .next u →
    u.occupiedCount ≤ 4
    ∧ (∀ sig pwr typ, op = .attach sig pwr typ → u.resp ≠ 0x80000001#32 → u.occupiedCount = s.occupiedCount + 1)
    ∧ (∀ sig pwr typ, op = .attach sig pwr typ → u.resp = 0x80000001#32 →
        u.occupiedCount = s.occupiedCount ∧ s.occupiedCount = 4)
    ∧ (∀ i, op = .detach i → (s.slot i).occupied = true → u.occupiedCount + 1 = s.occupiedCount)
    ∧ (∀ i, op = .detach i → (s.slot i).occupied = false → u.occupiedCount = s.occupiedCount)
    ∧ (op = .reset → u.occupiedCount = 0)
    ∧ ((∀ j, ¬ Loads op s j) → u.occupiedCount = s.occupiedCount)

/-- R199: while the host gives each session pins of its own, no two occupied slots name one signal pin. The duty is the
host's (R183, R199), the block does not check it; how far "pins of its own" reaches is the model's choice of
notes/assumptions/8.md. -/
def Obligations.HostDutyKeepsPinsDistinct : Prop :=
  ∀ (op : Instr) (s u : State), hostDuty s op = true → DistinctPins s → exec op s = .next u → DistinctPins u

/-! ### Rules of the whole machine -/

/-- The invariant of the slots is kept by every step from every state that has it (R21, R22, R28, R39, R142). Decisions D7,
D9, D10, D11 and, for the threshold past position 0 (R94), D5 (notes/assumptions/16.md); conflict C12. -/
def Obligations.InvariantIsKept : Prop := ∀ s u : State, s.Inv → step s = .next u → u.Inv

/-- The invariant holds right after reset. Decision D10. -/
def Obligations.InvariantHoldsAtReset : Prop := State.reset.Inv

/-- R39: how `bitPosition` moves. It becomes -1 only at a RISE that finds 19 or where the slot is loaded; a sync-gap
falling edge sets it to 0; otherwise it moves up by one per falling edge, saturating at 20; and it stays in -1 to 20. The
saturation, and so the range, is decision D7 (notes/assumptions/16.md); that this is the invariant is conflict C7.
Which slot an operation loads is decisions D10, D11 and D12 (`Loads`; notes/assumptions/5.md, 17.md). -/
def Obligations.PositionMovesAsTheRulesSay : Prop :=
  (∀ i, -1 ≤ (State.reset.slot i).bitPosition ∧ (State.reset.slot i).bitPosition ≤ 20)
  ∧ ∀ (op : Instr) (s u : State) (j : SlotIndex), exec op s = .next u →
    -1 ≤ (s.slot j).bitPosition → (s.slot j).bitPosition ≤ 20 →
    (-1 ≤ (u.slot j).bitPosition ∧ (u.slot j).bitPosition ≤ 20)
    ∧ ((u.slot j).bitPosition = -1 → (s.slot j).bitPosition = -1
        ∨ (∃ t, op = .rise j t ∧ (s.slot j).bitPosition = 19) ∨ Loads op s j)
    ∧ (∀ t, op = .fall j t → (s.slot j).occupied = true →
        (u.slot j).bitPosition =
          if Config.longGapUs < t - (s.slot j).lastEdgeTimestamp then 0 else min ((s.slot j).bitPosition + 1) 20)
    ∧ (¬ Loads op s j → (u.slot j).bitPosition ≠ (s.slot j).bitPosition →
        (∃ t, op = .fall j t) ∨ (∃ t, op = .rise j t ∧ (s.slot j).bitPosition = 19 ∧ (u.slot j).bitPosition = -1))

/-- R40: no operation on slot `i` reads or writes any field of another slot, except that ATTACH reads `occupied` of every
slot to find a free one. -/
def Obligations.SlotsShareNothing : Prop :=
  (∀ (op : Instr) (i : SlotIndex) (s u : State), op.slot? = some i → exec op s = .next u →
    ∀ j, j ≠ i → u.slot j = s.slot j)
  ∧ (∀ (op : Instr) (i : SlotIndex) (s s' u u' : State), op.slot? = some i → s.slot i = s'.slot i →
      exec op s = .next u → exec op s' = .next u' →
      u.slot i = u'.slot i ∧ u.resp = u'.resp ∧ u.requests = u'.requests)
  ∧ (∀ (sig pwr : PinNumber) (typ : SensorCode) (s s' u u' : State),
      (∀ i, (s.slot i).occupied = (s'.slot i).occupied) →
      exec (.attach sig pwr typ) s = .next u → exec (.attach sig pwr typ) s' = .next u' →
      u.resp = u'.resp ∧ u.requests = u'.requests
      ∧ ((∀ j, u.slot j = s.slot j ∧ u'.slot j = s'.slot j)
        ∨ ∃ i, u.slot i = u'.slot i ∧ ∀ j, j ≠ i → u.slot j = s.slot j ∧ u'.slot j = s'.slot j))

/-- R61: two operations on different slots commute: either order leaves the same slots and gives each the same response and
requests. The total order is decision D25. -/
def Obligations.DifferentSlotsCommute : Prop :=
  ∀ (a b : Instr) (i j : SlotIndex) (s ua uab ub uba : State),
    a.slot? = some i → b.slot? = some j → i ≠ j →
    exec a s = .next ua → exec b ua = .next uab → exec b s = .next ub → exec a ub = .next uba →
    uab.slots = uba.slots ∧ ua.resp = uba.resp ∧ ua.requests = uba.requests
      ∧ uab.resp = ub.resp ∧ uab.requests = ub.requests

/-- R37: the decoder's fields are written only by edge operations of their own slot, and the configuration and `occupied`
by none, but for ATTACH, DETACH and RESET, which load the slot. That the loads also write the published fields is conflict
C14.
Which slot an operation loads is decisions D10, D11 and D12 (`Loads`; notes/assumptions/5.md, 17.md). -/
def Obligations.WriteOwnership : Prop :=
  ∀ (op : Instr) (s u : State) (j : SlotIndex), exec op s = .next u → ¬ Loads op s j →
    (u.slot j).occupied = (s.slot j).occupied ∧ (u.slot j).signalPin = (s.slot j).signalPin
    ∧ (u.slot j).powerPin = (s.slot j).powerPin ∧ (u.slot j).sensorType = (s.slot j).sensorType
    ∧ ((∀ t, op ≠ .fall j t ∧ op ≠ .rise j t) →
        (u.slot j).bitPosition = (s.slot j).bitPosition
        ∧ (u.slot j).strobeThreshold = (s.slot j).strobeThreshold
        ∧ (u.slot j).bitAccumulator = (s.slot j).bitAccumulator
        ∧ (u.slot j).parityCount = (s.slot j).parityCount
        ∧ (u.slot j).lastEdgeTimestamp = (s.slot j).lastEdgeTimestamp
        ∧ (u.slot j).edgeInterval = (s.slot j).edgeInterval
        ∧ (u.slot j).rawValue = (s.slot j).rawValue)

/-- R27, R38: `rawValue` changes only at a publish, and there `initialized` and `valueAvailable` are set with it. The
layout of the data bits is decision D6.
Which slot an operation loads is decisions D10, D11 and D12 (`Loads`; notes/assumptions/5.md, 17.md). -/
def Obligations.RawValueChangesOnlyByPublish : Prop :=
  ∀ (op : Instr) (s u : State) (j : SlotIndex), exec op s = .next u → ¬ Loads op s j →
    (u.slot j).rawValue ≠ (s.slot j).rawValue →
    CompletesValid op s j ∧ (u.slot j).initialized = true ∧ (u.slot j).valueAvailable = true
      ∧ (u.slot j).parityError = (s.slot j).parityError
      ∧ ∃ t, op = .rise j t ∧ (u.slot j).rawValue = (accumulatorAt (s.slot j) t).extractLsb' 2 16

/-- R28, R29, R30: what sets and what clears each flag, apart from the operations that load the slot. The loads' clearing
is conflict C14. The test of validity is
decision D6 (notes/assumptions/16.md).
Which slot an operation loads is decisions D10, D11 and D12 (`Loads`; notes/assumptions/5.md, 17.md). -/
def Obligations.FlagsChangeOnlyAsTheRulesSay : Prop :=
  ∀ (op : Instr) (s u : State) (j : SlotIndex), exec op s = .next u → ¬ Loads op s j →
    ((s.slot j).initialized = false → (u.slot j).initialized = true → CompletesValid op s j)
    ∧ ((s.slot j).initialized = true → (u.slot j).initialized = false →
        op = .pwrOff j ∧ (s.slot j).powerPin ≠ Config.pinNone)
    ∧ ((s.slot j).valueAvailable = false → (u.slot j).valueAvailable = true → CompletesValid op s j)
    ∧ ((s.slot j).valueAvailable = true → (u.slot j).valueAvailable = false → op = .clrFlags j)
    ∧ ((s.slot j).parityError = false → (u.slot j).parityError = true → CompletesInvalid op s j)
    ∧ ((s.slot j).parityError = true → (u.slot j).parityError = false → op = .clrFlags j)

/-- R57: reads have no side effect and repeat their answer; CLR_FLAGS, PWR_OFF, PWR_ON and DETACH are idempotent; each
successful ATTACH occupies a further slot; FALL and RISE are not idempotent. That bit 31 of the response tells a failed
ATTACH from a successful one is decision D16 (notes/assumptions/17.md). -/
def Obligations.SideEffectsAndIdempotency : Prop :=
  (∀ (op : Instr) (i : SlotIndex) (s u v : State), op ∈ [Instr.rdFlags i, .rdRaw i, .rdCfg i, .nop] →
    exec op s = .next u → exec op u = .next v → SlotsKept s u ∧ v.resp = u.resp)
  ∧ (∀ (op : Instr) (i : SlotIndex) (s u v : State), op ∈ [Instr.clrFlags i, .pwrOff i, .pwrOn i, .detach i] →
      exec op s = .next u → exec op u = .next v → SlotsKept u v)
  ∧ (∀ (sig pwr : PinNumber) (typ : SensorCode) (s u : State), exec (.attach sig pwr typ) s = .next u →
      u.resp.getLsbD 31 = false → u.occupiedCount = s.occupiedCount + 1)
  ∧ (∃ (i : SlotIndex) (t : Timestamp) (s u v : State),
      exec (.fall i t) s = .next u ∧ exec (.fall i t) u = .next v ∧ v.slot i ≠ u.slot i)
  ∧ (∃ (i : SlotIndex) (t : Timestamp) (s u v : State),
      exec (.rise i t) s = .next u ∧ exec (.rise i t) u = .next v ∧ v.slot i ≠ u.slot i)

/-- R26, R109: what is hidden of a slot has no effect on anything else: from states that differ only in it, a step leaves
states that differ only in it, with the same response and requests. Decision D8. -/
def Obligations.HiddenStateIsUnobservable : Prop :=
  ∀ s s' u : State, s.SameButHidden s' → step s = .next u → ∃ u', step s' = .next u' ∧ u.SameButHidden u'

/-- R60, R122: until the slot is released or a rising edge arrives on it, every RD_RAW answers the `rawValue` it holds,
whatever else is done, an ATTACH of another slot included: an ATTACH never loads an occupied slot (R140). Where the slot has
published that is the value published last; that a channel which never published answers the 0 it was loaded with is the
model's choice of notes/assumptions/10.md (decision D10, against U3). The total order is decision D25. -/
def Obligations.PublishedValueIsReadBack : Prop :=
  ∀ (ops : List Instr) (i : SlotIndex) (s u : State), (s.slot i).occupied = true →
    (∀ op, op ∈ ops → op ≠ .detach i ∧ op ≠ .reset ∧ ∀ t, op ≠ .rise i t) → execAll ops s = .next u →
    ∃ v, exec (.rdRaw i) u = .next v ∧ v.resp = (s.slot i).rawValue.zeroExtend 32

/-- R174: an edge context writes only its own slot, never the configuration, and only sets flags; the reader context never
writes a decoder field or `rawValue` of a slot it does not load, and only clears flags there.
Which slot an operation loads is decisions D10, D11 and D12 (`Loads`; notes/assumptions/5.md, 17.md). -/
def Obligations.ContextsWriteOnlyTheirOwn : Prop :=
  ∀ (a : Agent) (op : Instr) (s u : State), a.mayIssue op = true → exec op s = .next u →
    (∀ i, a = .edge i →
      (∀ j, j ≠ i → u.slot j = s.slot j)
      ∧ (u.slot i).occupied = (s.slot i).occupied ∧ (u.slot i).signalPin = (s.slot i).signalPin
      ∧ (u.slot i).powerPin = (s.slot i).powerPin ∧ (u.slot i).sensorType = (s.slot i).sensorType
      ∧ ((s.slot i).initialized = true → (u.slot i).initialized = true)
      ∧ ((s.slot i).valueAvailable = true → (u.slot i).valueAvailable = true)
      ∧ ((s.slot i).parityError = true → (u.slot i).parityError = true))
    ∧ (a = .reader → ∀ j, ¬ Loads op s j →
      (u.slot j).bitPosition = (s.slot j).bitPosition ∧ (u.slot j).bitAccumulator = (s.slot j).bitAccumulator
      ∧ (u.slot j).strobeThreshold = (s.slot j).strobeThreshold ∧ (u.slot j).parityCount = (s.slot j).parityCount
      ∧ (u.slot j).lastEdgeTimestamp = (s.slot j).lastEdgeTimestamp
      ∧ (u.slot j).edgeInterval = (s.slot j).edgeInterval ∧ (u.slot j).rawValue = (s.slot j).rawValue
      ∧ ((u.slot j).initialized = true → (s.slot j).initialized = true)
      ∧ ((u.slot j).valueAvailable = true → (s.slot j).valueAvailable = true)
      ∧ ((u.slot j).parityError = true → (s.slot j).parityError = true))

/-! ### The host's read -/

/-- R164, R180: a `tryRead` on a channel that is not initialised, for every positive polling increment, ends in
InitializationTimeout: with no other operation between the host's it changes no slot, and whatever the other agents do
meanwhile, short of a rising edge on the slot, its DETACH or a RESET, it ends so and `rawValue` is kept. The arrangement of
the wait is R180's, decision D23; notes/assumptions/9.md. -/
def Obligations.TryReadTimesOut : Prop :=
  ∀ (pollUs : Nat) (i : SlotIndex) (s : State), 0 < pollUs → (s.slot i).occupied = true →
    (s.slot i).initialized = false →
    ∃ n,
      (∃ u, tryReadFrom pollUs i (List.replicate n []) .start s = (.done (.failed .initializationTimeout), u)
        ∧ SlotsKept s u)
      ∧ ∀ others : List (List Instr), others.length = n →
        (∀ ops, ops ∈ others → ∀ op, op ∈ ops → op ≠ .detach i ∧ op ≠ .reset ∧ ∀ t, op ≠ .rise i t) →
        ∃ u, tryReadFrom pollUs i others .start s = (.done (.failed .initializationTimeout), u)
          ∧ (u.slot i).rawValue = (s.slot i).rawValue ∧ (u.slot i).initialized = false

/-- R180 and the source's idempotence property: a `tryRead` on an initialised channel returns its raw value with both flags
cleared; where the sensor is externally powered a second one returns the same and changes nothing. On an un-initialised
channel a frame that completes parity-valid while the host waits, after any number of polls within the bound, ends the wait,
and its value is returned. Decision D23; notes/assumptions/9.md. That PWR_OFF keeps `initialized` with external power is
conflict C12; the published bits and the test of validity are decision D6 (notes/assumptions/16.md), the widths of the
accumulator and of the count decision D8 (notes/assumptions/17.md). -/
def Obligations.TryReadReturnsTheReading : Prop :=
  (∀ (pollUs : Nat) (i : SlotIndex) (s : State), (s.slot i).occupied = true → (s.slot i).initialized = true →
    ∃ u, tryReadFrom pollUs i (List.replicate 4 []) .start s = (.done (.reading (s.slot i).rawValue), u)
      ∧ SlotBecomes s u i
        { s.slot i with
          initialized := decide ((s.slot i).powerPin = Config.pinNone)
          valueAvailable := false
          parityError := false }
      ∧ ((s.slot i).powerPin = Config.pinNone →
          ∃ v, tryReadFrom pollUs i (List.replicate 4 []) .start u = (.done (.reading (s.slot i).rawValue), v)
            ∧ SlotsKept u v))
  ∧ ∀ (pollUs polls : Nat) (i : SlotIndex) (t : Timestamp) (s : State), (s.slot i).initialized = false →
      CompletesValid (.rise i t) s i → (∀ k, k < polls → k * pollUs < Config.readTimeoutUs) →
      ∃ u, tryReadFrom pollUs i (List.replicate (2 + polls) [] ++ [[.rise i t], [], [], []]) .start s =
          (.done (.reading ((accumulatorAt (s.slot i) t).extractLsb' 2 16)), u)
        ∧ SlotBecomes s u i
          { s.slot i with
            edgeInterval := t - (s.slot i).lastEdgeTimestamp
            bitAccumulator := accumulatorAt (s.slot i) t
            parityCount := countAt (s.slot i) t
            bitPosition := -1
            rawValue := (accumulatorAt (s.slot i) t).extractLsb' 2 16
            initialized := decide ((s.slot i).powerPin = Config.pinNone)
            valueAvailable := false
            parityError := false }
end

