-- ==== Sys2Proof/Laws/Decode.lean ====
section
/-! SUPPORT. The fields of a laid-out word, and that the rows of the opcode table cannot overlap. -/

namespace Sys2Proof

section
variable (op : BitVec 4) (slot : SlotIndex) (sig pwr : PinNumber) (typ : SensorCode) (ts : Timestamp)

/-- The layout, bit by bit (R80). -/
theorem layout_getLsbD (k : Nat) :
    (layout op slot sig pwr typ ts).getLsbD k =
      if k < 32 then ts.getLsbD k else if k < 40 then typ.getLsbD (k - 32) else if k < 48 then pwr.getLsbD (k - 40)
      else if k < 56 then sig.getLsbD (k - 48) else if k < 58 then false
      else if k < 60 then (BitVec.ofFin slot : BitVec 2).getLsbD (k - 58) else op.getLsbD (k - 60) := by
  unfold layout
  simp only [BitVec.getLsbD_append]
  repeat' split
  all_goals first | rfl | omega | simp

@[simp] theorem opField_layout : opField (layout op slot sig pwr typ ts) = op := by
  apply BitVec.eq_of_getLsbD_eq
  intro k hk
  have : ¬ 60 + k < 32 ∧ ¬ 60 + k < 40 ∧ ¬ 60 + k < 48 ∧ ¬ 60 + k < 56 ∧ ¬ 60 + k < 58 ∧ ¬ 60 + k < 60 := by omega
  simp [opField, layout_getLsbD, hk, this]

@[simp] theorem rsvField_layout : rsvField (layout op slot sig pwr typ ts) = 0#2 := by
  apply BitVec.eq_of_getLsbD_eq
  intro k hk
  have : ¬ 56 + k < 32 ∧ ¬ 56 + k < 40 ∧ ¬ 56 + k < 48 ∧ ¬ 56 + k < 56 ∧ 56 + k < 58 := by omega
  simp [rsvField, layout_getLsbD, this]

@[simp] theorem sigField_layout : sigField (layout op slot sig pwr typ ts) = sig := by
  apply BitVec.eq_of_getLsbD_eq
  intro k hk
  have : ¬ 48 + k < 32 ∧ ¬ 48 + k < 40 ∧ ¬ 48 + k < 48 ∧ 48 + k < 56 := by omega
  simp [sigField, layout_getLsbD, hk, this]

@[simp] theorem pwrField_layout : pwrField (layout op slot sig pwr typ ts) = pwr := by
  apply BitVec.eq_of_getLsbD_eq
  intro k hk
  have : ¬ 40 + k < 32 ∧ ¬ 40 + k < 40 ∧ 40 + k < 48 := by omega
  simp [pwrField, layout_getLsbD, hk, this]

@[simp] theorem typField_layout : typField (layout op slot sig pwr typ ts) = typ := by
  apply BitVec.eq_of_getLsbD_eq
  intro k hk
  have : ¬ 32 + k < 32 ∧ 32 + k < 40 := by omega
  simp [typField, layout_getLsbD, hk, this]

@[simp] theorem tsField_layout : tsField (layout op slot sig pwr typ ts) = ts := by
  apply BitVec.eq_of_getLsbD_eq
  intro k hk
  simp [tsField, layout_getLsbD, hk]

@[simp] theorem slotField_layout : slotField (layout op slot sig pwr typ ts) = slot := by
  have h : (layout op slot sig pwr typ ts).extractLsb' 58 2 = BitVec.ofFin slot := by
    apply BitVec.eq_of_getLsbD_eq
    intro k hk
    have : ¬ 58 + k < 32 ∧ ¬ 58 + k < 40 ∧ ¬ 58 + k < 48 ∧ ¬ 58 + k < 56 ∧ ¬ 58 + k < 58 ∧ 58 + k < 60 := by omega
    simp [layout_getLsbD, hk, this]
  exact congrArg BitVec.toFin h

end

/-- R81: no word selects two operations: the rows of the table differ under the mask. -/
theorem opcodes_distinct : (opcodes.map selectMatch).Pairwise (· ≠ ·) := by decide

/-- Every operation's code is one of the table's. -/
theorem Instr.opcode_mem (i : Instr) : i.opcode ∈ opcodes := by
  cases i <;> simp [Instr.opcode, opcodes]

end Sys2Proof
end

