-- ==== Sys2Proof/Laws/State.lean ====
section
/-! SUPPORT. One lemma per field per update, each true by rfl: what the named updates of a state and of a slot leave in
each field. -/

namespace Sys2Proof.Machine

/-! ### Updates of the state -/

@[simp] theorem State.setSlot_slots (s : State) (i : SlotIndex) (c : Slot) :
    (s.setSlot i c).slots = s.slots.set i c := rfl
@[simp] theorem State.setSlot_resp (s : State) (i : SlotIndex) (c : Slot) : (s.setSlot i c).resp = s.resp := rfl
@[simp] theorem State.setSlot_requests (s : State) (i : SlotIndex) (c : Slot) :
    (s.setSlot i c).requests = s.requests := rfl
@[simp] theorem State.setSlot_inputs (s : State) (i : SlotIndex) (c : Slot) : (s.setSlot i c).inputs = s.inputs := rfl
@[simp] theorem State.answer_slots (s : State) (r : RespWord) (q : List Request) :
    (s.answer r q).slots = s.slots := rfl
@[simp] theorem State.answer_resp (s : State) (r : RespWord) (q : List Request) : (s.answer r q).resp = r := rfl
@[simp] theorem State.answer_requests (s : State) (r : RespWord) (q : List Request) :
    (s.answer r q).requests = q := rfl
@[simp] theorem State.answer_inputs (s : State) (r : RespWord) (q : List Request) :
    (s.answer r q).inputs = s.inputs := rfl
@[simp] theorem State.rstInput_slots (s : State) : s.rstInput.slots = SlotArray.reset := rfl
@[simp] theorem State.rstInput_resp (s : State) : s.rstInput.resp = 0 := rfl
@[simp] theorem State.rstInput_requests (s : State) : s.rstInput.requests = [] := rfl
@[simp] theorem State.rstInput_inputs (s : State) : s.rstInput.inputs = s.inputs := rfl
@[simp] theorem State.present_slots (s : State) (c : Cycle) : (s.present c).slots = s.slots := rfl
@[simp] theorem State.present_resp (s : State) (c : Cycle) : (s.present c).resp = s.resp := rfl
@[simp] theorem State.present_requests (s : State) (c : Cycle) : (s.present c).requests = s.requests := rfl
@[simp] theorem State.present_inputs (s : State) (c : Cycle) : (s.present c).inputs = s.inputs ++ c.inputs := rfl
@[simp] theorem State.withFetchWord_slots (s : State) (n w : Nat) : (s.withFetchWord n w).slots = s.slots := rfl
@[simp] theorem State.withFetchWord_resp (s : State) (n w : Nat) : (s.withFetchWord n w).resp = s.resp := rfl
@[simp] theorem State.withFetchWord_requests (s : State) (n w : Nat) :
    (s.withFetchWord n w).requests = s.requests := rfl
@[simp] theorem State.withFetchWord_inputs (s : State) (n w : Nat) :
    (s.withFetchWord n w).inputs = .word (tableWord n w) :: s.inputs := rfl
@[simp] theorem State.reset_slots : State.reset.slots = SlotArray.reset := rfl
@[simp] theorem State.reset_resp : State.reset.resp = 0 := rfl
@[simp] theorem State.reset_requests : State.reset.requests = [] := rfl
@[simp] theorem State.reset_inputs : State.reset.inputs = [] := rfl

/-- What a slot is does not depend on the ports. -/
@[simp] theorem State.answer_slot (s : State) (r : RespWord) (q : List Request) (i : SlotIndex) :
    (s.answer r q).slot i = s.slot i := rfl

/-- Taking an input changes no slot. -/
@[simp] theorem State.withInputs_slot (s : State) (l : List Input) (i : SlotIndex) :
    State.slot { s with inputs := l } i = s.slot i := rfl

/-! ### Updates of a slot -/

@[simp] theorem Slot.measure_occupied (t : Timestamp) (c : Slot) : (c.measure t).occupied = c.occupied := rfl
@[simp] theorem Slot.measure_signalPin (t : Timestamp) (c : Slot) : (c.measure t).signalPin = c.signalPin := rfl
@[simp] theorem Slot.measure_powerPin (t : Timestamp) (c : Slot) : (c.measure t).powerPin = c.powerPin := rfl
@[simp] theorem Slot.measure_sensorType (t : Timestamp) (c : Slot) : (c.measure t).sensorType = c.sensorType := rfl
@[simp] theorem Slot.measure_bitPosition (t : Timestamp) (c : Slot) : (c.measure t).bitPosition = c.bitPosition := rfl
@[simp] theorem Slot.measure_strobeThreshold (t : Timestamp) (c : Slot) :
    (c.measure t).strobeThreshold = c.strobeThreshold := rfl
@[simp] theorem Slot.measure_bitAccumulator (t : Timestamp) (c : Slot) :
    (c.measure t).bitAccumulator = c.bitAccumulator := rfl
@[simp] theorem Slot.measure_parityCount (t : Timestamp) (c : Slot) : (c.measure t).parityCount = c.parityCount := rfl
@[simp] theorem Slot.measure_lastEdgeTimestamp (t : Timestamp) (c : Slot) :
    (c.measure t).lastEdgeTimestamp = c.lastEdgeTimestamp := rfl
@[simp] theorem Slot.measure_edgeInterval (t : Timestamp) (c : Slot) :
    (c.measure t).edgeInterval = t - c.lastEdgeTimestamp := rfl
@[simp] theorem Slot.measure_rawValue (t : Timestamp) (c : Slot) : (c.measure t).rawValue = c.rawValue := rfl
@[simp] theorem Slot.measure_initialized (t : Timestamp) (c : Slot) : (c.measure t).initialized = c.initialized := rfl
@[simp] theorem Slot.measure_valueAvailable (t : Timestamp) (c : Slot) :
    (c.measure t).valueAvailable = c.valueAvailable := rfl
@[simp] theorem Slot.measure_parityError (t : Timestamp) (c : Slot) : (c.measure t).parityError = c.parityError := rfl

@[simp] theorem Slot.calibrate_occupied (off : Timestamp) (c : Slot) : (c.calibrate off).occupied = c.occupied := rfl
@[simp] theorem Slot.calibrate_signalPin (off : Timestamp) (c : Slot) :
    (c.calibrate off).signalPin = c.signalPin := rfl
@[simp] theorem Slot.calibrate_powerPin (off : Timestamp) (c : Slot) : (c.calibrate off).powerPin = c.powerPin := rfl
@[simp] theorem Slot.calibrate_sensorType (off : Timestamp) (c : Slot) :
    (c.calibrate off).sensorType = c.sensorType := rfl
@[simp] theorem Slot.calibrate_bitPosition (off : Timestamp) (c : Slot) : (c.calibrate off).bitPosition = 1 := rfl
@[simp] theorem Slot.calibrate_strobeThreshold (off : Timestamp) (c : Slot) :
    (c.calibrate off).strobeThreshold = thresholdOf off c.edgeInterval := rfl
@[simp] theorem Slot.calibrate_bitAccumulator (off : Timestamp) (c : Slot) :
    (c.calibrate off).bitAccumulator = 0 := rfl
@[simp] theorem Slot.calibrate_parityCount (off : Timestamp) (c : Slot) : (c.calibrate off).parityCount = 0 := rfl
@[simp] theorem Slot.calibrate_lastEdgeTimestamp (off : Timestamp) (c : Slot) :
    (c.calibrate off).lastEdgeTimestamp = c.lastEdgeTimestamp := rfl
@[simp] theorem Slot.calibrate_edgeInterval (off : Timestamp) (c : Slot) :
    (c.calibrate off).edgeInterval = c.edgeInterval := rfl
@[simp] theorem Slot.calibrate_rawValue (off : Timestamp) (c : Slot) : (c.calibrate off).rawValue = c.rawValue := rfl
@[simp] theorem Slot.calibrate_initialized (off : Timestamp) (c : Slot) :
    (c.calibrate off).initialized = c.initialized := rfl
@[simp] theorem Slot.calibrate_valueAvailable (off : Timestamp) (c : Slot) :
    (c.calibrate off).valueAvailable = c.valueAvailable := rfl
@[simp] theorem Slot.calibrate_parityError (off : Timestamp) (c : Slot) :
    (c.calibrate off).parityError = c.parityError := rfl

@[simp] theorem Slot.sample_occupied (c : Slot) : c.sample.occupied = c.occupied := rfl
@[simp] theorem Slot.sample_signalPin (c : Slot) : c.sample.signalPin = c.signalPin := rfl
@[simp] theorem Slot.sample_powerPin (c : Slot) : c.sample.powerPin = c.powerPin := rfl
@[simp] theorem Slot.sample_sensorType (c : Slot) : c.sample.sensorType = c.sensorType := rfl
@[simp] theorem Slot.sample_bitPosition (c : Slot) : c.sample.bitPosition = c.bitPosition := rfl
@[simp] theorem Slot.sample_strobeThreshold (c : Slot) : c.sample.strobeThreshold = c.strobeThreshold := rfl
@[simp] theorem Slot.sample_bitAccumulator (c : Slot) :
    c.sample.bitAccumulator = shiftIn c.bitAccumulator (sampledBit c.edgeInterval c.strobeThreshold) := rfl
@[simp] theorem Slot.sample_parityCount (c : Slot) :
    c.sample.parityCount = countOne c.parityCount (sampledBit c.edgeInterval c.strobeThreshold) := rfl
@[simp] theorem Slot.sample_lastEdgeTimestamp (c : Slot) : c.sample.lastEdgeTimestamp = c.lastEdgeTimestamp := rfl
@[simp] theorem Slot.sample_edgeInterval (c : Slot) : c.sample.edgeInterval = c.edgeInterval := rfl
@[simp] theorem Slot.sample_rawValue (c : Slot) : c.sample.rawValue = c.rawValue := rfl
@[simp] theorem Slot.sample_initialized (c : Slot) : c.sample.initialized = c.initialized := rfl
@[simp] theorem Slot.sample_valueAvailable (c : Slot) : c.sample.valueAvailable = c.valueAvailable := rfl
@[simp] theorem Slot.sample_parityError (c : Slot) : c.sample.parityError = c.parityError := rfl

@[simp] theorem Slot.publish_occupied (v : RawValue) (c : Slot) : (c.publish v).occupied = c.occupied := rfl
@[simp] theorem Slot.publish_signalPin (v : RawValue) (c : Slot) : (c.publish v).signalPin = c.signalPin := rfl
@[simp] theorem Slot.publish_powerPin (v : RawValue) (c : Slot) : (c.publish v).powerPin = c.powerPin := rfl
@[simp] theorem Slot.publish_sensorType (v : RawValue) (c : Slot) : (c.publish v).sensorType = c.sensorType := rfl
@[simp] theorem Slot.publish_bitPosition (v : RawValue) (c : Slot) : (c.publish v).bitPosition = c.bitPosition := rfl
@[simp] theorem Slot.publish_strobeThreshold (v : RawValue) (c : Slot) :
    (c.publish v).strobeThreshold = c.strobeThreshold := rfl
@[simp] theorem Slot.publish_bitAccumulator (v : RawValue) (c : Slot) :
    (c.publish v).bitAccumulator = c.bitAccumulator := rfl
@[simp] theorem Slot.publish_parityCount (v : RawValue) (c : Slot) : (c.publish v).parityCount = c.parityCount := rfl
@[simp] theorem Slot.publish_lastEdgeTimestamp (v : RawValue) (c : Slot) :
    (c.publish v).lastEdgeTimestamp = c.lastEdgeTimestamp := rfl
@[simp] theorem Slot.publish_edgeInterval (v : RawValue) (c : Slot) :
    (c.publish v).edgeInterval = c.edgeInterval := rfl
@[simp] theorem Slot.publish_rawValue (v : RawValue) (c : Slot) : (c.publish v).rawValue = v := rfl
@[simp] theorem Slot.publish_initialized (v : RawValue) (c : Slot) : (c.publish v).initialized = true := rfl
@[simp] theorem Slot.publish_valueAvailable (v : RawValue) (c : Slot) : (c.publish v).valueAvailable = true := rfl
@[simp] theorem Slot.publish_parityError (v : RawValue) (c : Slot) : (c.publish v).parityError = c.parityError := rfl

@[simp] theorem Slot.failParity_occupied (c : Slot) : c.failParity.occupied = c.occupied := rfl
@[simp] theorem Slot.failParity_signalPin (c : Slot) : c.failParity.signalPin = c.signalPin := rfl
@[simp] theorem Slot.failParity_powerPin (c : Slot) : c.failParity.powerPin = c.powerPin := rfl
@[simp] theorem Slot.failParity_sensorType (c : Slot) : c.failParity.sensorType = c.sensorType := rfl
@[simp] theorem Slot.failParity_bitPosition (c : Slot) : c.failParity.bitPosition = c.bitPosition := rfl
@[simp] theorem Slot.failParity_strobeThreshold (c : Slot) : c.failParity.strobeThreshold = c.strobeThreshold := rfl
@[simp] theorem Slot.failParity_bitAccumulator (c : Slot) : c.failParity.bitAccumulator = c.bitAccumulator := rfl
@[simp] theorem Slot.failParity_parityCount (c : Slot) : c.failParity.parityCount = c.parityCount := rfl
@[simp] theorem Slot.failParity_lastEdgeTimestamp (c : Slot) :
    c.failParity.lastEdgeTimestamp = c.lastEdgeTimestamp := rfl
@[simp] theorem Slot.failParity_edgeInterval (c : Slot) : c.failParity.edgeInterval = c.edgeInterval := rfl
@[simp] theorem Slot.failParity_rawValue (c : Slot) : c.failParity.rawValue = c.rawValue := rfl
@[simp] theorem Slot.failParity_initialized (c : Slot) : c.failParity.initialized = c.initialized := rfl
@[simp] theorem Slot.failParity_valueAvailable (c : Slot) : c.failParity.valueAvailable = c.valueAvailable := rfl
@[simp] theorem Slot.failParity_parityError (c : Slot) : c.failParity.parityError = true := rfl

@[simp] theorem Slot.clearFlags_occupied (c : Slot) : c.clearFlags.occupied = c.occupied := rfl
@[simp] theorem Slot.clearFlags_signalPin (c : Slot) : c.clearFlags.signalPin = c.signalPin := rfl
@[simp] theorem Slot.clearFlags_powerPin (c : Slot) : c.clearFlags.powerPin = c.powerPin := rfl
@[simp] theorem Slot.clearFlags_sensorType (c : Slot) : c.clearFlags.sensorType = c.sensorType := rfl
@[simp] theorem Slot.clearFlags_bitPosition (c : Slot) : c.clearFlags.bitPosition = c.bitPosition := rfl
@[simp] theorem Slot.clearFlags_strobeThreshold (c : Slot) : c.clearFlags.strobeThreshold = c.strobeThreshold := rfl
@[simp] theorem Slot.clearFlags_bitAccumulator (c : Slot) : c.clearFlags.bitAccumulator = c.bitAccumulator := rfl
@[simp] theorem Slot.clearFlags_parityCount (c : Slot) : c.clearFlags.parityCount = c.parityCount := rfl
@[simp] theorem Slot.clearFlags_lastEdgeTimestamp (c : Slot) :
    c.clearFlags.lastEdgeTimestamp = c.lastEdgeTimestamp := rfl
@[simp] theorem Slot.clearFlags_edgeInterval (c : Slot) : c.clearFlags.edgeInterval = c.edgeInterval := rfl
@[simp] theorem Slot.clearFlags_rawValue (c : Slot) : c.clearFlags.rawValue = c.rawValue := rfl
@[simp] theorem Slot.clearFlags_initialized (c : Slot) : c.clearFlags.initialized = c.initialized := rfl
@[simp] theorem Slot.clearFlags_valueAvailable (c : Slot) : c.clearFlags.valueAvailable = false := rfl
@[simp] theorem Slot.clearFlags_parityError (c : Slot) : c.clearFlags.parityError = false := rfl

@[simp] theorem Slot.uninitialize_occupied (c : Slot) : c.uninitialize.occupied = c.occupied := rfl
@[simp] theorem Slot.uninitialize_signalPin (c : Slot) : c.uninitialize.signalPin = c.signalPin := rfl
@[simp] theorem Slot.uninitialize_powerPin (c : Slot) : c.uninitialize.powerPin = c.powerPin := rfl
@[simp] theorem Slot.uninitialize_sensorType (c : Slot) : c.uninitialize.sensorType = c.sensorType := rfl
@[simp] theorem Slot.uninitialize_bitPosition (c : Slot) : c.uninitialize.bitPosition = c.bitPosition := rfl
@[simp] theorem Slot.uninitialize_strobeThreshold (c : Slot) :
    c.uninitialize.strobeThreshold = c.strobeThreshold := rfl
@[simp] theorem Slot.uninitialize_bitAccumulator (c : Slot) : c.uninitialize.bitAccumulator = c.bitAccumulator := rfl
@[simp] theorem Slot.uninitialize_parityCount (c : Slot) : c.uninitialize.parityCount = c.parityCount := rfl
@[simp] theorem Slot.uninitialize_lastEdgeTimestamp (c : Slot) :
    c.uninitialize.lastEdgeTimestamp = c.lastEdgeTimestamp := rfl
@[simp] theorem Slot.uninitialize_edgeInterval (c : Slot) : c.uninitialize.edgeInterval = c.edgeInterval := rfl
@[simp] theorem Slot.uninitialize_rawValue (c : Slot) : c.uninitialize.rawValue = c.rawValue := rfl
@[simp] theorem Slot.uninitialize_initialized (c : Slot) : c.uninitialize.initialized = false := rfl
@[simp] theorem Slot.uninitialize_valueAvailable (c : Slot) : c.uninitialize.valueAvailable = c.valueAvailable := rfl
@[simp] theorem Slot.uninitialize_parityError (c : Slot) : c.uninitialize.parityError = c.parityError := rfl

@[simp] theorem Slot.reset_occupied : Slot.reset.occupied = false := rfl
@[simp] theorem Slot.reset_signalPin : Slot.reset.signalPin = 0 := rfl
@[simp] theorem Slot.reset_powerPin : Slot.reset.powerPin = 0 := rfl
@[simp] theorem Slot.reset_sensorType : Slot.reset.sensorType = 0 := rfl
@[simp] theorem Slot.reset_bitPosition : Slot.reset.bitPosition = -1 := rfl
@[simp] theorem Slot.reset_strobeThreshold : Slot.reset.strobeThreshold = 0 := rfl
@[simp] theorem Slot.reset_bitAccumulator : Slot.reset.bitAccumulator = 0 := rfl
@[simp] theorem Slot.reset_parityCount : Slot.reset.parityCount = 0 := rfl
@[simp] theorem Slot.reset_lastEdgeTimestamp : Slot.reset.lastEdgeTimestamp = 0 := rfl
@[simp] theorem Slot.reset_edgeInterval : Slot.reset.edgeInterval = 0 := rfl
@[simp] theorem Slot.reset_rawValue : Slot.reset.rawValue = 0 := rfl
@[simp] theorem Slot.reset_initialized : Slot.reset.initialized = false := rfl
@[simp] theorem Slot.reset_valueAvailable : Slot.reset.valueAvailable = false := rfl
@[simp] theorem Slot.reset_parityError : Slot.reset.parityError = false := rfl

@[simp] theorem Slot.attached_occupied (sig pwr : PinNumber) (typ : SensorCode) :
    (Slot.attached sig pwr typ).occupied = true := rfl
@[simp] theorem Slot.attached_signalPin (sig pwr : PinNumber) (typ : SensorCode) :
    (Slot.attached sig pwr typ).signalPin = sig := rfl
@[simp] theorem Slot.attached_powerPin (sig pwr : PinNumber) (typ : SensorCode) :
    (Slot.attached sig pwr typ).powerPin = pwr := rfl
@[simp] theorem Slot.attached_sensorType (sig pwr : PinNumber) (typ : SensorCode) :
    (Slot.attached sig pwr typ).sensorType = typ := rfl
@[simp] theorem Slot.attached_bitPosition (sig pwr : PinNumber) (typ : SensorCode) :
    (Slot.attached sig pwr typ).bitPosition = -1 := rfl
@[simp] theorem Slot.attached_strobeThreshold (sig pwr : PinNumber) (typ : SensorCode) :
    (Slot.attached sig pwr typ).strobeThreshold = 0 := rfl
@[simp] theorem Slot.attached_bitAccumulator (sig pwr : PinNumber) (typ : SensorCode) :
    (Slot.attached sig pwr typ).bitAccumulator = 0 := rfl
@[simp] theorem Slot.attached_parityCount (sig pwr : PinNumber) (typ : SensorCode) :
    (Slot.attached sig pwr typ).parityCount = 0 := rfl
@[simp] theorem Slot.attached_lastEdgeTimestamp (sig pwr : PinNumber) (typ : SensorCode) :
    (Slot.attached sig pwr typ).lastEdgeTimestamp = 0 := rfl
@[simp] theorem Slot.attached_edgeInterval (sig pwr : PinNumber) (typ : SensorCode) :
    (Slot.attached sig pwr typ).edgeInterval = 0 := rfl
@[simp] theorem Slot.attached_rawValue (sig pwr : PinNumber) (typ : SensorCode) :
    (Slot.attached sig pwr typ).rawValue = 0 := rfl
@[simp] theorem Slot.attached_initialized (sig pwr : PinNumber) (typ : SensorCode) :
    (Slot.attached sig pwr typ).initialized = false := rfl
@[simp] theorem Slot.attached_valueAvailable (sig pwr : PinNumber) (typ : SensorCode) :
    (Slot.attached sig pwr typ).valueAvailable = false := rfl
@[simp] theorem Slot.attached_parityError (sig pwr : PinNumber) (typ : SensorCode) :
    (Slot.attached sig pwr typ).parityError = false := rfl

end Sys2Proof.Machine
end

