-- ==== Sys2Proof/Laws/Ops.lean ====
section
/-! SUPPORT. What the shared operations over slots, ports and the registry can do, said once each. -/

namespace Sys2Proof.Machine

/-- Every slot index is one of four. -/
theorem slotIndex_cases (i : SlotIndex) : i = 0 ∨ i = 1 ∨ i = 2 ∨ i = 3 := by
  revert i; decide

@[simp] theorem SlotArray.get_set_same (a : SlotArray) (i : SlotIndex) (c : Slot) : (a.set i c).get i = c := by
  rcases slotIndex_cases i with rfl | rfl | rfl | rfl <;> rfl

/-- R40: replacing a slot leaves every other slot alone. -/
theorem SlotArray.get_set_ne (a : SlotArray) (c : Slot) {i j : SlotIndex} (h : j ≠ i) :
    (a.set i c).get j = a.get j := by
  rcases slotIndex_cases i with rfl | rfl | rfl | rfl <;> rcases slotIndex_cases j with rfl | rfl | rfl | rfl <;>
    first | rfl | exact absurd rfl h

/-- Two arrays with the same slots are the same array. -/
theorem SlotArray.ext_get {a b : SlotArray} (h : ∀ i, a.get i = b.get i) : a = b := by
  obtain ⟨a0, a1, a2, a3⟩ := a
  obtain ⟨b0, b1, b2, b3⟩ := b
  have h0 : a0 = b0 := h 0
  have h1 : a1 = b1 := h 1
  have h2 : a2 = b2 := h 2
  have h3 : a3 = b3 := h 3
  rw [h0, h1, h2, h3]

@[simp] theorem SlotArray.get_reset (i : SlotIndex) : SlotArray.reset.get i = Slot.reset := by
  rcases slotIndex_cases i with rfl | rfl | rfl | rfl <;> rfl

@[simp] theorem State.slot_setSlot_same (s : State) (i : SlotIndex) (c : Slot) : (s.setSlot i c).slot i = c :=
  SlotArray.get_set_same _ _ _

theorem State.slot_setSlot_ne (s : State) (c : Slot) {i j : SlotIndex} (h : j ≠ i) :
    (s.setSlot i c).slot j = s.slot j :=
  SlotArray.get_set_ne _ _ h

/-- An operation on an occupied slot: the slot changes as said, and the answer stands at the ports. -/
theorem State.onOccupied_occupied {s : State} {i : SlotIndex} (h : (s.slot i).occupied = true) (f : Slot → Slot)
    (r : RespWord) (q : List Request) : s.onOccupied i f r q = (s.setSlot i (f (s.slot i))).answer r q :=
  if_pos h

/-- An operation on an empty slot changes no slot, emits nothing and answers 0 (R90, R120, R142). -/
theorem State.onOccupied_empty {s : State} {i : SlotIndex} (h : (s.slot i).occupied = false) (f : Slot → Slot)
    (r : RespWord) (q : List Request) : s.onOccupied i f r q = s.answer 0 [] :=
  if_neg (by simp [h])

@[simp] theorem State.onOccupied_inputs (s : State) (i : SlotIndex) (f : Slot → Slot) (r : RespWord)
    (q : List Request) : (s.onOccupied i f r q).inputs = s.inputs := by
  unfold State.onOccupied; split <;> rfl

/-- The slot an operation acts on, after it. -/
theorem State.onOccupied_slot_same (s : State) (i : SlotIndex) (f : Slot → Slot) (r : RespWord) (q : List Request) :
    (s.onOccupied i f r q).slot i = if (s.slot i).occupied then f (s.slot i) else s.slot i := by
  unfold State.onOccupied; split <;> simp

/-- R40: an operation on one slot leaves every other slot alone. -/
theorem State.onOccupied_slot_ne (s : State) (f : Slot → Slot) (r : RespWord) (q : List Request) {i j : SlotIndex}
    (h : j ≠ i) : (s.onOccupied i f r q).slot j = s.slot j := by
  unfold State.onOccupied; split <;> simp [State.slot_setSlot_ne, h]

/-- The free slot found is free, and every lower slot is occupied. -/
theorem SlotArray.firstFree_some {a : SlotArray} {i : SlotIndex} (h : a.firstFree = some i) :
    (a.get i).occupied = false ∧ ∀ j, j < i → (a.get j).occupied = true := by
  cases h0 : (a.get 0).occupied <;> cases h1 : (a.get 1).occupied <;> cases h2 : (a.get 2).occupied <;>
    cases h3 : (a.get 3).occupied <;>
    simp only [SlotArray.firstFree, slotIndices, List.find?, h0, h1, h2, h3, Bool.not_true, Bool.not_false,
      Option.some.injEq, reduceCtorEq] at h <;>
    subst h <;> refine ⟨by assumption, fun j hj => ?_⟩ <;>
    rcases slotIndex_cases j with rfl | rfl | rfl | rfl <;> first | assumption | exact absurd hj (by decide)

/-- No free slot is found exactly where every slot is occupied (R141). -/
theorem SlotArray.firstFree_none {a : SlotArray} : a.firstFree = none ↔ ∀ i, (a.get i).occupied = true := by
  simp only [SlotArray.firstFree, List.find?_eq_none, Bool.not_eq_true', Bool.not_eq_false]
  exact ⟨fun h i => h i (by rcases slotIndex_cases i with rfl | rfl | rfl | rfl <;> decide), fun h i _ => h i⟩

/-- A free slot below which every slot is occupied is the one found (R140). -/
theorem SlotArray.firstFree_eq {a : SlotArray} {i : SlotIndex} (hi : (a.get i).occupied = false)
    (hj : ∀ j, j < i → (a.get j).occupied = true) : a.firstFree = some i := by
  cases h : a.firstFree with
  | none => exact absurd (SlotArray.firstFree_none.mp h i) (by simp [hi])
  | some k =>
    obtain ⟨hk, hlow⟩ := SlotArray.firstFree_some h
    rcases Nat.lt_trichotomy k.val i.val with hlt | heq | hgt
    · exact absurd (hj k hlt) (by simp [hk])
    · rw [Fin.ext heq]
    · exact absurd (hlow i hgt) (by simp [hi])

/-- The response of RD_CFG, bit by bit (R124). -/
theorem cfgResponse_getLsbD (i : SlotIndex) (c : Slot) (k : Nat) :
    (cfgResponse i c).getLsbD k =
      if k < 8 then c.signalPin.getLsbD k else if k < 16 then c.powerPin.getLsbD (k - 8)
      else if k < 24 then c.sensorType.getLsbD (k - 16) else if k < 26 then (slotIndexBits i).getLsbD (k - 24)
      else false := by
  unfold cfgResponse
  simp only [BitVec.getLsbD_append]
  repeat' split
  all_goals first | rfl | omega | simp

/-- The response of RD_FLAGS, bit by bit (R121). -/
theorem flagsResponse_getLsbD (c : Slot) (k : Nat) :
    (flagsResponse c).getLsbD k =
      if k = 0 then c.occupied else if k = 1 then c.initialized else if k = 2 then c.valueAvailable
      else if k = 3 then c.parityError else false := by
  unfold flagsResponse
  simp only [BitVec.getLsbD_append]
  repeat' split
  all_goals first | omega | (subst_vars; simp)

/-- The response of RD_RAW, as a number (R122). -/
@[simp] theorem rawResponse_toNat (c : Slot) : (rawResponse c).toNat = c.rawValue.toNat := by
  have := c.rawValue.isLt
  simp [rawResponse]
  omega

/-- The edge operation of a level. -/
@[simp] theorem edgeInstr_true (i : SlotIndex) (t : Timestamp) : edgeInstr i true t = .rise i t := rfl

@[simp] theorem edgeInstr_false (i : SlotIndex) (t : Timestamp) : edgeInstr i false t = .fall i t := rfl

end Sys2Proof.Machine
end

