-- ==== Sys2Proof/Laws/Edge.lean ====
section
/-! SUPPORT. What the Channel Decoder's functions can do, said once each: the conditions in plain comparisons, the three
cases of a falling edge and the cases of a rising edge. -/

namespace Sys2Proof.Machine

@[simp] theorem isGap_eq (longGap d : Timestamp) : isGap longGap d = decide (longGap < d) := rfl

@[simp] theorem sampledBit_eq (d th : Timestamp) : sampledBit d th = decide (d < th) := rfl

@[simp] theorem evenParity_eq (n : ParityCount) : evenParity n = !n.getLsbD 0 := rfl

@[simp] theorem countOne_true (n : ParityCount) : countOne n true = n + 1 := rfl

@[simp] theorem countOne_false (n : ParityCount) : countOne n false = n := rfl

/-- The bit shifted in is the new bit 0; every earlier bit moves up one place (R108). -/
theorem shiftIn_getLsbD (acc : Accumulator) (b : Bool) (k : Nat) :
    (shiftIn acc b).getLsbD k = if k = 0 then b else decide (k < 20) && acc.getLsbD (k - 1) := by
  cases b <;> cases k <;> simp [shiftIn, BitVec.getLsbD_or, BitVec.getLsbD_shiftLeft]

/-- `bitAccumulator[17:2]`, bit by bit (R77). -/
theorem dataBits_getLsbD (acc : Accumulator) (k : Nat) :
    (dataBits acc).getLsbD k = (decide (k < 16) && acc.getLsbD (2 + k)) := by
  simp [dataBits]

/-- The increment saturates at 20 (R110). -/
theorem nextPosition_eq (p : Int) : nextPosition p = min (p + 1) 20 := rfl

/-- A falling edge takes one of three cases: gap, end of slot 0, or advance; and records its time (R92 to R95). -/
theorem Slot.fall_cases (longGap calOffset t : Timestamp) (c : Slot) :
    (longGap < t - c.lastEdgeTimestamp
      ∧ c.fall longGap calOffset t = { c.measure t with bitPosition := 0, lastEdgeTimestamp := t })
    ∨ (¬ longGap < t - c.lastEdgeTimestamp ∧ c.bitPosition = 0
      ∧ c.fall longGap calOffset t = { (c.measure t).calibrate calOffset with lastEdgeTimestamp := t })
    ∨ (¬ longGap < t - c.lastEdgeTimestamp ∧ c.bitPosition ≠ 0
      ∧ c.fall longGap calOffset t =
        { c.measure t with bitPosition := nextPosition c.bitPosition, lastEdgeTimestamp := t }) := by
  by_cases hg : longGap < t - c.lastEdgeTimestamp
  · exact .inl ⟨hg, by simp [Slot.fall, Slot.advance, hg]⟩
  · by_cases hp : c.bitPosition = 0
    · exact .inr (.inl ⟨hg, hp, by simp [Slot.fall, Slot.advance, hg, hp]⟩)
    · exact .inr (.inr ⟨hg, hp, by simp [Slot.fall, Slot.advance, hg, hp]⟩)

/-- The end of a frame publishes, keeps or flags the error (R98, R99, R100), and the position goes to -1 (R101). -/
theorem Slot.complete_cases (c : Slot) :
    (c.parityCount.getLsbD 0 = false ∧ (dataBits c.bitAccumulator ≠ c.rawValue ∨ c.initialized = false)
      ∧ c.complete = { c.publish (dataBits c.bitAccumulator) with bitPosition := -1 })
    ∨ (c.parityCount.getLsbD 0 = false ∧ dataBits c.bitAccumulator = c.rawValue ∧ c.initialized = true
      ∧ c.complete = { c with bitPosition := -1 })
    ∨ (c.parityCount.getLsbD 0 = true ∧ c.complete = { c.failParity with bitPosition := -1 }) := by
  cases hp : c.parityCount.getLsbD 0
  · by_cases hn : dataBits c.bitAccumulator ≠ c.rawValue ∨ c.initialized = false
    · refine .inl ⟨rfl, hn, ?_⟩
      unfold Slot.complete Slot.judge
      rw [if_pos (by rw [evenParity_eq, hp]; rfl), if_pos hn]
    · refine .inr (.inl ⟨rfl, ?_, ?_, ?_⟩)
      · exact not_not.mp fun h => hn (.inl h)
      · exact Bool.of_not_eq_false fun h => hn (.inr h)
      · unfold Slot.complete Slot.judge
        rw [if_pos (by rw [evenParity_eq, hp]; rfl), if_neg hn]
  · refine .inr (.inr ⟨rfl, ?_⟩)
    unfold Slot.complete Slot.judge
    rw [if_neg (by rw [evenParity_eq, hp]; decide)]

/-- A rising edge is ignored at -1 and 0 (R96), completes the frame at 19 (R98 to R101), and samples elsewhere (R102). -/
theorem Slot.rise_cases (t : Timestamp) (c : Slot) :
    (c.bitPosition ≤ 0 ∧ c.rise t = c.measure t)
    ∨ (c.bitPosition = 19 ∧ c.rise t = (c.measure t).sample.complete)
    ∨ (1 ≤ c.bitPosition ∧ c.bitPosition ≠ 19 ∧ c.rise t = (c.measure t).sample) := by
  by_cases h0 : c.bitPosition ≤ 0
  · exact .inl ⟨h0, if_pos h0⟩
  · by_cases h19 : c.bitPosition = 19
    · exact .inr (.inl ⟨h19, (if_neg h0).trans (if_pos h19)⟩)
    · exact .inr (.inr ⟨by omega, h19, (if_neg h0).trans (if_neg h19)⟩)

/-- A list of edges is its first edge, then the rest. -/
@[simp] theorem Slot.edges_cons (longGap calOffset : Timestamp) (e : Bool × Timestamp) (es : List (Bool × Timestamp))
    (c : Slot) : Slot.edges longGap calOffset (e :: es) c =
      Slot.edges longGap calOffset es (c.edge longGap calOffset e.1 e.2) := rfl

@[simp] theorem Slot.edges_nil (longGap calOffset : Timestamp) (c : Slot) :
    Slot.edges longGap calOffset [] c = c := rfl

/-- Edges in two parts. -/
theorem Slot.edges_append (longGap calOffset : Timestamp) (xs ys : List (Bool × Timestamp)) (c : Slot) :
    Slot.edges longGap calOffset (xs ++ ys) c =
      Slot.edges longGap calOffset ys (Slot.edges longGap calOffset xs c) := by
  induction xs generalizing c with
  | nil => rfl
  | cons e es ih => exact ih _

@[simp] theorem Slot.edge_fall (longGap calOffset t : Timestamp) (c : Slot) :
    c.edge longGap calOffset false t = c.fall longGap calOffset t := rfl

@[simp] theorem Slot.edge_rise (longGap calOffset t : Timestamp) (c : Slot) :
    c.edge longGap calOffset true t = c.rise t := rfl

end Sys2Proof.Machine
end

