-- ==== Sys2Proof/Laws/PerInstr.lean ====
section
/-! SUPPORT. The families of statements made per operation. -/

namespace Sys2Proof.Laws

/-- R81: the word of the operation selects its own row, `word & mask = match`, and the operation's slot is in range. -/
def EncodeSelects.Statement (i : Instr) : Prop :=
  encode i &&& selectMask = selectMatch i.opcode ∧ i.wellFormed = true

/-- The bits of the mask of R81. -/
theorem selectMask_getLsbD (k : Nat) (hk : k < 64) :
    selectMask.getLsbD k = (decide (60 ≤ k) || decide (56 ≤ k ∧ k < 58)) := by
  revert hk; revert k; decide

/-- The bits of a match of R81. -/
theorem selectMatch_getLsbD (op : BitVec 4) (k : Nat) (hk : k < 64) :
    (selectMatch op).getLsbD k = (decide (60 ≤ k) && op.getLsbD (k - 60)) := by
  simp only [selectMatch, BitVec.getLsbD_shiftLeft, BitVec.getLsbD_setWidth]
  by_cases h : 60 ≤ k <;> simp [h, hk, show k - 60 < 64 by omega]

/-- Under the mask only the `op` field of a laid-out word is left. -/
theorem layout_selectMask (op : BitVec 4) (slot : SlotIndex) (sig pwr : PinNumber) (typ : SensorCode)
    (ts : Timestamp) : layout op slot sig pwr typ ts &&& selectMask = selectMatch op := by
  apply BitVec.eq_of_getLsbD_eq
  intro k hk
  rw [BitVec.getLsbD_and, layout_getLsbD, selectMask_getLsbD k hk, selectMatch_getLsbD op k hk]
  by_cases h : 60 ≤ k
  · have : ¬ k < 32 ∧ ¬ k < 40 ∧ ¬ k < 48 ∧ ¬ k < 56 ∧ ¬ k < 58 ∧ ¬ k < 60 := by omega
    simp [h, this]
  · by_cases h' : 56 ≤ k ∧ k < 58
    · have : ¬ k < 32 ∧ ¬ k < 40 ∧ ¬ k < 48 ∧ ¬ k < 56 := by omega
      simp [h, h', this]
    · simp [h, h']

namespace EncodeSelects

theorem nop : Statement .nop := ⟨layout_selectMask _ _ _ _ _ _, rfl⟩

theorem fall (i : SlotIndex) (t : Timestamp) : Statement (.fall i t) :=
  ⟨layout_selectMask _ _ _ _ _ _, decide_eq_true i.isLt⟩

theorem rise (i : SlotIndex) (t : Timestamp) : Statement (.rise i t) :=
  ⟨layout_selectMask _ _ _ _ _ _, decide_eq_true i.isLt⟩

theorem rdFlags (i : SlotIndex) : Statement (.rdFlags i) := ⟨layout_selectMask _ _ _ _ _ _, decide_eq_true i.isLt⟩

theorem rdRaw (i : SlotIndex) : Statement (.rdRaw i) := ⟨layout_selectMask _ _ _ _ _ _, decide_eq_true i.isLt⟩

theorem clrFlags (i : SlotIndex) : Statement (.clrFlags i) := ⟨layout_selectMask _ _ _ _ _ _, decide_eq_true i.isLt⟩

theorem pwrOn (i : SlotIndex) : Statement (.pwrOn i) := ⟨layout_selectMask _ _ _ _ _ _, decide_eq_true i.isLt⟩

theorem pwrOff (i : SlotIndex) : Statement (.pwrOff i) := ⟨layout_selectMask _ _ _ _ _ _, decide_eq_true i.isLt⟩

theorem rdCfg (i : SlotIndex) : Statement (.rdCfg i) := ⟨layout_selectMask _ _ _ _ _ _, decide_eq_true i.isLt⟩

theorem attach (sig pwr : PinNumber) (typ : SensorCode) : Statement (.attach sig pwr typ) :=
  ⟨layout_selectMask _ _ _ _ _ _, rfl⟩

theorem detach (i : SlotIndex) : Statement (.detach i) := ⟨layout_selectMask _ _ _ _ _ _, decide_eq_true i.isLt⟩

theorem reset : Statement .reset := ⟨layout_selectMask _ _ _ _ _ _, rfl⟩

end EncodeSelects

end Sys2Proof.Laws
end

