-- ==== Sys2Proof/Laws/Step.lean ====
section
/-! SUPPORT. What `exec` and `step` can do, said once each: every operation answers a next state, which the meanings
below give, and a step takes the first input, if there is one. -/

namespace Sys2Proof.Machine

/-- What an operation makes of a slot it names, where that slot is occupied. -/
def slotEffect (op : Instr) (c : Slot) : Slot :=
  match op with
  | .fall _ t => c.fall Config.longGapUs Config.calOffsetUs t
  | .rise _ t => c.rise t
  | .clrFlags _ => c.clearFlags
  | .pwrOff _ => c.powerOff
  | .detach _ => Slot.reset
  | .nop => c
  | .rdFlags _ => c
  | .rdRaw _ => c
  | .pwrOn _ => c
  | .rdCfg _ => c
  | .attach _ _ _ => c
  | .reset => c

/-- The response of an operation that names an occupied slot `c`. -/
def slotResponse (op : Instr) (c : Slot) : RespWord :=
  match op with
  | .rdFlags _ => flagsResponse c
  | .rdRaw _ => rawResponse c
  | .rdCfg i => cfgResponse i c
  | .fall _ _ => 0
  | .rise _ _ => 0
  | .clrFlags _ => 0
  | .pwrOff _ => 0
  | .detach _ => 0
  | .nop => 0
  | .pwrOn _ => 0
  | .attach _ _ _ => 0
  | .reset => 0

/-- The requests of an operation that names an occupied slot `c`. -/
def slotRequests (op : Instr) (c : Slot) : List Request :=
  match op with
  | .pwrOn _ => powerRequest Config.pwrOnLevel c
  | .pwrOff _ => powerRequest (!Config.pwrOnLevel) c
  | .detach _ => [.cancelEdge c.signalPin]
  | .fall _ _ => []
  | .rise _ _ => []
  | .clrFlags _ => []
  | .nop => []
  | .rdFlags _ => []
  | .rdRaw _ => []
  | .rdCfg _ => []
  | .attach _ _ _ => []
  | .reset => []

/-- An operation that names a slot acts through `onOccupied` on that slot, as `slotEffect`, `slotResponse` and
`slotRequests` say. -/
theorem exec_named {op : Instr} {i : SlotIndex} (h : op.slot? = some i) (s : State) :
    exec op s = .next (s.onOccupied i (slotEffect op) (slotResponse op (s.slot i)) (slotRequests op (s.slot i))) := by
  cases op <;> simp only [Instr.slot?, Option.some.injEq, reduceCtorEq] at h <;> subst h <;> rfl

theorem exec_nop (s : State) : exec .nop s = .next (s.answer 0 []) := rfl

theorem exec_reset (s : State) :
    exec .reset s = .next (State.answer { s with slots := SlotArray.reset } 0 s.slots.cancels) := rfl

/-- ATTACH with a free slot (R140). -/
theorem exec_attach_free {s : State} {i : SlotIndex} (h : s.slots.firstFree = some i) (sig pwr : PinNumber)
    (typ : SensorCode) : exec (.attach sig pwr typ) s =
      .next ((s.setSlot i (Slot.attached sig pwr typ)).answer (attachResponse i) [.onEdge sig i]) := by
  simp [exec, execAttach, h]

/-- ATTACH with no free slot (R141). -/
theorem exec_attach_full {s : State} (h : s.slots.firstFree = none) (sig pwr : PinNumber) (typ : SensorCode) :
    exec (.attach sig pwr typ) s = .next (s.answer (failureResponse .slotExhausted) []) := by
  simp [exec, execAttach, h]

/-- An operation names a slot, or is NOP, RESET or ATTACH. -/
theorem instr_cases_slot (op : Instr) :
    (∃ i, op.slot? = some i) ∨ op = .nop ∨ op = .reset ∨ ∃ sig pwr typ, op = .attach sig pwr typ := by
  cases op <;> simp [Instr.slot?]

/-- No operation touches the inputs still to come. -/
theorem exec_inputs {op : Instr} {s u : State} (h : exec op s = .next u) : u.inputs = s.inputs := by
  rcases instr_cases_slot op with ⟨i, hi⟩ | rfl | rfl | ⟨sig, pwr, typ, rfl⟩
  · rw [exec_named hi] at h; cases h; simp
  · cases h; rfl
  · cases h; rfl
  · cases hf : s.slots.firstFree with
    | none => rw [exec_attach_full hf] at h; cases h; rfl
    | some i => rw [exec_attach_free hf] at h; cases h; rfl

/-- A step takes the first input, or there is none and nothing happens. -/
theorem step_cases (s : State) :
    (s.inputs = [] ∧ step s = .next s)
    ∨ ∃ x rest, s.inputs = x :: rest ∧ step s = perform x { s with inputs := rest } := by
  cases h : s.inputs with
  | nil => exact .inl ⟨rfl, by simp [step, h]⟩
  | cons x rest => exact .inr ⟨x, rest, rfl, by simp [step, h]⟩

/-- What one input does: execute an operation, answer a reserved word, or reset. -/
theorem perform_cases (x : Input) (s : State) :
    (∃ op, perform x s = exec op s) ∨ perform x s = .next (s.answer reservedResponse []) ∨
      perform x s = .next s.rstInput := by
  cases x with
  | word w =>
    cases h : decode w with
    | instr i => exact .inl ⟨i, by simp [perform, performWord, h]⟩
    | reserved why => exact .inr (.inl (by simp [perform, performWord, h]))
  | irq i pins now => exact .inl ⟨routeEdge s i pins now, rfl⟩
  | rst => exact .inr (.inr rfl)

end Sys2Proof.Machine
end

