-- ==== Sys2Proof/Laws/Safety.lean ====
section
/-! SUPPORT. Which operations load a slot, what an operation can do to a slot it does not load, and what the environment's
constraint on timestamps amounts to. -/

namespace Sys2Proof.Machine

/-- R167 excludes no sequence of 32-bit timestamps: a count may pass any number of wraps between two edges. So a free
timestamp in every edge operation is all that R12 and R167 ask (notes/assumptions/11.md). -/
theorem fromTimer_all (ts : List Timestamp) : FromTimer ts := by
  suffices h : ∀ start : Nat, ∃ times : List Nat, (∀ n ∈ times, start ≤ n) ∧ times.Pairwise (· ≤ ·)
      ∧ ts = times.map fun n => BitVec.ofNat 32 n by
    obtain ⟨times, -, hp, ht⟩ := h 0
    exact ⟨times, hp, ht⟩
  induction ts with
  | nil => exact fun _ => ⟨[], by simp, by simp, rfl⟩
  | cons t ts ih =>
    intro start
    obtain ⟨times, hlow, hp, ht⟩ := ih (t.toNat + start * 2 ^ 32)
    refine ⟨(t.toNat + start * 2 ^ 32) :: times, ?_, List.pairwise_cons.mpr ⟨hlow, hp⟩, ?_⟩
    · intro n hn
      rcases List.mem_cons.mp hn with rfl | hn
      · omega
      · have := hlow n hn
        omega
    · rw [List.map_cons, ht]
      congr 1
      apply BitVec.eq_of_toNat_eq
      have := t.isLt
      simp [Nat.add_mul_mod_self_right]
      omega

/-- ATTACH loads the slot that the search for a free one finds. -/
theorem loads_attach {s : State} {j : SlotIndex} (sig pwr : PinNumber) (typ : SensorCode) :
    Loads (.attach sig pwr typ) s j ↔ s.slots.firstFree = some j := by
  constructor
  · rintro (⟨_, _, _, -, hfree, hlow⟩ | ⟨h, -⟩ | h)
    · exact SlotArray.firstFree_eq hfree hlow
    · cases h
    · cases h
  · intro h
    exact .inl ⟨sig, pwr, typ, rfl, SlotArray.firstFree_some h⟩

/-- DETACH loads its own slot, where that is occupied. -/
theorem loads_detach {s : State} {i j : SlotIndex} :
    Loads (.detach i) s j ↔ i = j ∧ (s.slot j).occupied = true := by
  simp [Loads]

/-- RESET loads every slot. -/
theorem loads_reset (s : State) (j : SlotIndex) : Loads .reset s j := .inr (.inr rfl)

/-- An ATTACH never loads an occupied slot. -/
theorem not_loads_attach {s : State} {j : SlotIndex} (h : (s.slot j).occupied = true) (sig pwr : PinNumber)
    (typ : SensorCode) : ¬ Loads (.attach sig pwr typ) s j := by
  rw [loads_attach]
  intro hf
  have hfree : (s.slot j).occupied = false := (SlotArray.firstFree_some hf).1
  simp [h] at hfree

/-- A slot that an operation does not load is unchanged, or is occupied, named by the operation, and becomes what
`slotEffect` says. -/
theorem exec_slot_not_loaded {op : Instr} {s u : State} {j : SlotIndex} (h : exec op s = .next u)
    (hl : ¬ Loads op s j) : u.slot j = s.slot j
      ∨ (op.slot? = some j ∧ (s.slot j).occupied = true ∧ u.slot j = slotEffect op (s.slot j)) := by
  rcases instr_cases_slot op with ⟨i, hi⟩ | rfl | rfl | ⟨sig, pwr, typ, rfl⟩
  · rw [exec_named hi] at h
    cases h
    by_cases e : j = i
    · subst e
      rw [State.onOccupied_slot_same]
      cases ho : (s.slot j).occupied
      · exact .inl (by simp)
      · exact .inr ⟨hi, rfl, by simp⟩
    · exact .inl (State.onOccupied_slot_ne _ _ _ _ e)
  · cases h
    exact .inl rfl
  · exact absurd (loads_reset s j) hl
  · cases hf : s.slots.firstFree with
    | none =>
      rw [exec_attach_full hf] at h
      cases h
      exact .inl rfl
    | some i =>
      have hne : j ≠ i := by
        rintro rfl
        exact hl ((loads_attach sig pwr typ).mpr hf)
      rw [exec_attach_free hf] at h
      cases h
      exact .inl (State.slot_setSlot_ne s _ hne)

end Sys2Proof.Machine
end

