-- ==== Sys2Proof/Laws/Session.lean ====
section
/-! SUPPORT. Sequences of operations, and one operation of a `tryRead`. -/

namespace Sys2Proof.Machine

/-- Operations in two parts, the first of which ends in a next state. -/
theorem execAll_append {xs ys : List Instr} {s u : State} (h : execAll xs s = .next u) :
    execAll (xs ++ ys) s = execAll ys u := by
  induction xs generalizing s with
  | nil =>
    cases h
    rfl
  | cons op ops ih =>
    simp only [List.cons_append, execAll] at h ⊢
    cases hs : exec op s with
    | next v =>
      rw [hs] at h
      exact ih h
    | fault r => cases r
    | refused r =>
      rw [hs] at h
      cases h

/-- One operation is its own sequence. -/
theorem execAll_singleton {op : Instr} {s u : State} (h : exec op s = .next u) : execAll [op] s = .next u := by
  simp [execAll, h]

/-- The other agents act, the host issues the operation of its phase, and goes on by the response. -/
theorem tryReadFrom_cons {pollUs : Nat} {i : SlotIndex} {ops : List Instr} {others : List (List Instr)}
    {p : ReadPhase} {op : Instr} {s v u : State} (hp : p.op i = some op) (ho : execAll ops s = .next v)
    (hu : exec op v = .next u) : tryReadFrom pollUs i (ops :: others) p s =
      tryReadFrom pollUs i others (p.onResponse pollUs u.resp) u := by
  simp only [tryReadFrom, hp, execAll_append ho, execAll_singleton hu]

/-- A `tryRead` that is done issues nothing more. -/
@[simp] theorem tryReadFrom_done (pollUs : Nat) (i : SlotIndex) (others : List (List Instr)) (r : ReadResult)
    (s : State) : tryReadFrom pollUs i others (.done r) s = (.done r, s) := by
  cases others <;> rfl

end Sys2Proof.Machine
end

