-- ==== Sys2Proof/Tests/Slice0.lean ====
section
/-! SUPPORT. Tests: the checks of WellFormed refusing ill-formed words, the decoder on words written out from R80 and R81,
one step of each operation on the vectors of 95_test_vectors.md, and, for each statement with hypotheses, values that meet
them. Expected values are the spec's. The decoder's vectors use `REF` (`LONG_GAP_US = 1000`, `CAL_OFFSET_US = 10`). -/

namespace Sys2Proof.Tests

open Sys2Proof.Machine

/-! ### Helpers -/

/-- The channel of the vectors: slot 0 after `ATTACH 7, 0xFF, 2`. -/
def channel : Slot := Slot.attached 7 0xFF 2

/-- The machine with `c` in slot `i` and the other slots empty. -/
def machine (i : SlotIndex) (c : Slot) : State := State.reset.setSlot i c

/-- The machine with four channels on the pins 10, 11, 12, 13. -/
def full : State :=
  { State.reset with
    slots := ⟨Slot.attached 10 0xFF 0, Slot.attached 11 0xFF 0, Slot.attached 12 0x14 1, Slot.attached 13 0xFF 1⟩ }

/-- The next state of an outcome, if there is one. -/
def next? (o : Host.Outcome State Fault Refusal) : Option State :=
  match o with
  | .next u => some u
  | .fault _ => none
  | .refused _ => none

/-- The flags `i a e` of a slot, as the vectors write them. -/
def iae (c : Slot) : Bool × Bool × Bool := (c.initialized, c.valueAvailable, c.parityError)

/-! ### WellFormed refuses -/

/-- R83: `op` `0xB` and `0xE` are reserved. -/
theorem test_wf_refuses_reserved_op :
    OpWord.opAllowed 0xB000000000000000#64 = false ∧ OpWord.opAllowed 0xE400000000000000#64 = false
      ∧ OpWord.opAllowed 0xF000000000000000#64 = true ∧ OpWord.opAllowed 0xA800000000000000#64 = true := by decide

/-- R83: `rsv` must be 0. -/
theorem test_wf_refuses_reserved_field :
    OpWord.rsvZero 0x3100000000000000#64 = false ∧ OpWord.rsvZero 0x0200000000000000#64 = false
      ∧ OpWord.rsvZero 0x3C00000000000000#64 = true := by decide

/-- R80: an unused field is 0 in the canonical spelling. -/
theorem test_wf_refuses_unused_field :
    OpWord.unusedZero 0x0000000000001234#64 = false ∧ OpWord.unusedZero 0x40000000DEADBEEF#64 = false
      ∧ OpWord.unusedZero 0x9C07FF0200000000#64 = false ∧ OpWord.unusedZero 0x9007FF0200000000#64 = true := by decide

/-- R80, R83: the two checks over the whole word. -/
theorem test_wf_refuses_words :
    OpWord.wellFormed 0xC000000000000000#64 = false ∧ OpWord.wellFormed 0x3100000000000000#64 = false
      ∧ OpWord.canonical 0x40000000DEADBEEF#64 = false ∧ OpWord.canonical 0x1C000000FFFFFFFF#64 = true := by decide

/-- R52: no operation names a slot out of range, for the field cannot hold one. -/
theorem test_wf_slot_in_range : Instr.wellFormed (.detach 3) = true := by decide

/-! ### Decoding: 95_test_vectors.md section 2.5 -/

theorem test_decode_nop : decode 0x0000000000000000#64 = .instr .nop ∧ decode 0x0000000000001234#64 = .instr .nop := by
  decide
theorem test_decode_fall :
    decode 0x1000000000001388#64 = .instr (.fall 0 5000#32)
      ∧ decode 0x1C000000FFFFFFFF#64 = .instr (.fall 3 0xFFFFFFFF#32) := by decide
theorem test_decode_rise : decode 0x240000000000006E#64 = .instr (.rise 1 110#32) := by decide
theorem test_decode_rdFlags : decode 0x3800000000000000#64 = .instr (.rdFlags 2) := by decide
theorem test_decode_rdRaw :
    decode 0x4000000000000000#64 = .instr (.rdRaw 0) ∧ decode 0x40000000DEADBEEF#64 = .instr (.rdRaw 0) := by decide
theorem test_decode_clrFlags : decode 0x5400000000000000#64 = .instr (.clrFlags 1) := by decide
theorem test_decode_pwrOn : decode 0x6000000000000000#64 = .instr (.pwrOn 0) := by decide
theorem test_decode_pwrOff : decode 0x7C00000000000000#64 = .instr (.pwrOff 3) := by decide
theorem test_decode_rdCfg : decode 0x8800000000000000#64 = .instr (.rdCfg 2) := by decide
theorem test_decode_attach :
    decode 0x90ABCDEF00000000#64 = .instr (.attach 0xAB 0xCD 0xEF)
      ∧ decode 0x9C07FF0200000000#64 = .instr (.attach 7 0xFF 2) := by decide
theorem test_decode_detach : decode 0xA800000000000000#64 = .instr (.detach 2) := by decide
theorem test_decode_reset : decode 0xF000000000000000#64 = .instr .reset := by decide
theorem test_decode_reserved :
    decode 0xB000000000000000#64 = .reserved .reservedOp ∧ decode 0xC000000000000000#64 = .reserved .reservedOp
      ∧ decode 0xD000000000000000#64 = .reserved .reservedOp ∧ decode 0xE000000000000000#64 = .reserved .reservedOp
      ∧ decode 0x3100000000000000#64 = .reserved .reservedField := by decide

/-- The encoder against the words of section 2.5. -/
theorem test_encode_words :
    encode (.rise 1 110#32) = 0x240000000000006E#64 ∧ encode (.attach 0xAB 0xCD 0xEF) = 0x90ABCDEF00000000#64
      ∧ encode (.pwrOff 3) = 0x7C00000000000000#64 ∧ encode .reset = 0xF000000000000000#64 := by decide

/-! ### One step of each operation -/

/-- V-G5. -/
theorem test_nop : exec .nop full = .next full := by rfl

/-- V-E2: an interval of 1000 is short, of 1001 a gap. -/
theorem test_fall_gap_boundary :
    (Slot.fall 1000 10 11000 { channel with bitPosition := 5, lastEdgeTimestamp := 10000 }).bitPosition = 6
      ∧ (Slot.fall 1000 10 11001 { channel with bitPosition := 5, lastEdgeTimestamp := 10000 }).bitPosition = 0 := by
  decide

/-- The channel with its decoder at position `pos`, its latest falling edge at `last`, and the threshold 50. -/
def decoding (pos : Int) (last : Timestamp) (acc : Accumulator) (par : ParityCount) : Slot :=
  { channel with
    bitPosition := pos, lastEdgeTimestamp := last, strobeThreshold := 50, bitAccumulator := acc, parityCount := par }

/-- V-E3: slots 0 of length 121 and 12; the accumulator and the count are cleared. -/
theorem test_fall_calibrates :
    Slot.fall 1000 10 5121 (decoding 0 5000 0xABCDE 7) = { decoding 1 5121 0 0 with edgeInterval := 121 }
    ∧ (Slot.fall 1000 10 5012 (decoding 0 5000 0 0)).strobeThreshold = 0xFFFFFFFC := by decide

/-- V-E9, fourth row: the frame of `0x1234` is published. -/
theorem test_rise_publishes :
    Slot.rise 7310 { decoding 19 7280 0x02468 5 with initialized := true } =
      { decoding (-1) 7280 0x048D1 6 with
        edgeInterval := 30, rawValue := 0x1234, initialized := true, valueAvailable := true } := by decide

/-- V-E10, second row: odd parity. -/
theorem test_rise_parity_error :
    Slot.rise 7370 { decoding 19 7280 0x02468 5 with rawValue := 0x0777, initialized := true, valueAvailable := true } =
      { decoding (-1) 7280 0x048D0 5 with
        edgeInterval := 90, rawValue := 0x0777, initialized := true, valueAvailable := true, parityError := true } := by
  decide

/-- V-R1: `i a e = 1 0 1` on an occupied slot, and an empty slot. -/
theorem test_rdFlags :
    (next? (exec (.rdFlags 0) (machine 0 { channel with initialized := true, parityError := true }))).map State.resp =
      some 0x0000000B ∧ (next? (exec (.rdFlags 1) State.reset)).map State.resp = some 0 := by decide

/-- V-R2: zero-extended. -/
theorem test_rdRaw :
    (next? (exec (.rdRaw 0) (machine 0 { channel with rawValue := 0x8001 }))).map State.resp = some 0x00008001 := by
  decide

/-- V-R3: 1 1 1 becomes 1 0 0. -/
theorem test_clrFlags :
    (next? (exec (.clrFlags 0) (machine 0
      { channel with initialized := true, valueAvailable := true, parityError := true }))).map
        (fun u => iae (u.slot 0)) = some (true, false, false) := by decide

/-- V-R4. -/
theorem test_rdCfg :
    (next? (exec (.rdCfg 0) (machine 0 channel))).map State.resp = some 0x0002FF07
      ∧ (next? (exec (.rdCfg 2) (machine 2 (Slot.attached 14 0xFF 3)))).map State.resp = some 0x0203FF0E
      ∧ (next? (exec (.rdCfg 3) State.reset)).map State.resp = some 0 := by decide

/-- V-R5. -/
theorem test_pwrOn :
    exec (.pwrOn 0) (machine 0 (Slot.attached 8 5 0)) =
        .next { machine 0 (Slot.attached 8 5 0) with requests := [.setOutput 5 Config.pwrOnLevel] }
      ∧ exec (.pwrOn 0) (machine 0 channel) = .next (machine 0 channel) := ⟨rfl, rfl⟩

/-- V-R6: a switched sensor. -/
theorem test_pwrOff_switched :
    exec (.pwrOff 0) (machine 0 { Slot.attached 8 5 0 with initialized := true, valueAvailable := true }) =
      .next { machine 0 { Slot.attached 8 5 0 with valueAvailable := true } with
        requests := [.setOutput 5 (!Config.pwrOnLevel)] } := rfl

/-- V-R6: an externally powered sensor. -/
theorem test_pwrOff_external :
    exec (.pwrOff 0) (machine 0 { channel with initialized := true, valueAvailable := true }) =
      .next (machine 0 { channel with initialized := true, valueAvailable := true }) := rfl

/-- P4, operation 5: the fifth ATTACH. -/
theorem test_attach_full : exec (.attach 14 0xFF 0) full = .next { full with resp := 0x80000001 } := by rfl

/-- V-G1: with slot 2 the lowest free slot, ATTACH answers 2. -/
theorem test_attach_lowest_free :
    (next? (exec (.attach 14 0xFF 3) (full.setSlot 2 Slot.reset))).map
        (fun u => (u.resp, u.requests, (u.slot 2).signalPin, (u.slot 3).signalPin)) =
      some (2, [.onEdge 14 2], 14, 13) := by decide

/-- V-G3, and a second DETACH. -/
theorem test_detach :
    exec (.detach 2) full = .next { full.setSlot 2 Slot.reset with requests := [.cancelEdge 12] }
      ∧ exec (.detach 2) (full.setSlot 2 Slot.reset) = .next (full.setSlot 2 Slot.reset) := ⟨rfl, rfl⟩

/-- V-G4: the cancellations come in slot order. -/
theorem test_reset :
    exec .reset (full.setSlot 2 Slot.reset) =
      .next { State.reset with requests := [.cancelEdge 10, .cancelEdge 11, .cancelEdge 13] } := by rfl

/-- R83: a reserved word is answered `0xFFFFFFFF`; the table word `RD_FLAGS 2` is run by the next step. -/
theorem test_step_words :
    step (full.withFetchWord 64 0xB000000000000000) = .next { full with resp := 0xFFFFFFFF }
      ∧ step (full.withFetchWord 64 0x3800000000000000) = .next { full with resp := 1 } := ⟨rfl, rfl⟩

/-- R144: a high level on pin 12 makes the edge on line 2 a rising edge of slot 2; a low level a falling edge. -/
theorem test_step_irq :
    step { full with inputs := [.irq 2 (1 <<< 12) 300] } = exec (.rise 2 300) full
      ∧ step { full with inputs := [.irq 2 (1 <<< 11) 300] } = exec (.fall 2 300) full := ⟨rfl, rfl⟩

/-- R171, R190: the order within one cycle. -/
theorem test_cycle_order :
    (Cycle.inputs ⟨false, 9, 0b1010, 0, true, 0⟩) = [.irq 1 0 9, .irq 3 0 9, .word 0]
      ∧ (Cycle.inputs ⟨true, 9, 0b1010, 0, true, 0⟩) = [.rst] := by decide

/-! ### Whole frames: V-F1 rows 3 and 10 -/

/-- The bits of V-F1 row 3, slots 1 to 19: `0x1234`. -/
def bits1234 : List Bool :=
  [false, false, false, false, true, false, false, true, false, false, false, true, true, false, true, false, false,
    false, true]

/-- The falling edges of FRAME 0, 5000, 120. -/
def falls (k : Nat) : Timestamp := BitVec.ofNat 32 (5000 + k * 120)

/-- The rising edges of FRAME 0, 5000, 120 with the bits `bits`. -/
def rises (bits : List Bool) (k : Nat) : Timestamp :=
  falls k + BitVec.ofNat 32 (frameLow 120 k ((false :: bits).getD k false))

theorem test_frame_1234 :
    iae (Slot.edges 1000 10 (frameEdges falls (rises bits1234)) channel) = (true, true, false)
      ∧ (Slot.edges 1000 10 (frameEdges falls (rises bits1234)) channel).rawValue = 0x1234
      ∧ (Slot.edges 1000 10 (frameEdges falls (rises bits1234)) channel).bitAccumulator = 0x048D1 := by decide +kernel

theorem test_frame_odd :
    iae (Slot.edges 1000 10 (frameEdges falls (rises (bits1234.set 18 false))) channel) = (false, false, true)
      ∧ (Slot.edges 1000 10 (frameEdges falls (rises (bits1234.set 18 false))) channel).rawValue = 0 := by decide +kernel

/-- The FRAME pseudo-operation is that list of edges (R85e). -/
theorem test_frame_ops :
    frameOps 0 5000 120 bits1234 = (frameEdges falls (rises bits1234)).map fun e => edgeInstr 0 e.1 e.2 := by decide +kernel

/-- READ, and the bits HASNEW, ISINIT and PERR look at (R85). -/
theorem test_pseudo_operations :
    readOps 1 = [.pwrOff 1, .rdRaw 1, .clrFlags 1] ∧ availBit 0x5 = true ∧ initBit 0x3 = true ∧ perrBit 0x9 = true
      ∧ availBit 0x3 = false ∧ initBit 0x5 = false ∧ perrBit 0x7 = false := by decide

/-- R182: the handle of a successful ATTACH, and a failure. -/
theorem test_create_result : createResult 2 = some 2 ∧ createResult 0x80000001 = none := by decide

/-! ### Values that meet the hypotheses of the statements -/

/-- A switched channel with every flag set. -/
def switched : Slot :=
  { Slot.attached 8 5 0 with initialized := true, valueAvailable := true, parityError := true }

/-- One rising edge from a parity-valid end of frame, carrying `0x1234`; an edge at 7370 makes it parity-invalid. -/
def atEnd : Slot := decoding 19 7280 0x02468 5

/-- Of RstInputEmptiesEverySlot, StepRunsDecodedOperation, StepAnswersReservedWord, IrqIsOneRoutedEdge and
NoOperationNoChange: states that present each kind of input, or none. -/
theorem test_witness_inputs :
    (∃ (s : State) (rest : List Input), s.inputs = .rst :: rest)
    ∧ (∃ (s : State) (w : OpWord) (rest : List Input) (i : Instr), s.inputs = .word w :: rest ∧ decode w = .instr i)
    ∧ (∃ (s : State) (w : OpWord) (rest : List Input), s.inputs = .word w :: rest ∧ decode w = .reserved .reservedOp)
    ∧ (∃ (s : State) (w : OpWord) (rest : List Input), s.inputs = .word w :: rest ∧ decode w = .reserved .reservedField)
    ∧ (∃ (s : State) (rest : List Input), s.inputs = .irq 3 (1 <<< 13) 7 :: rest)
    ∧ State.reset.inputs = [] :=
  ⟨⟨{ full with inputs := [.rst] }, _, rfl⟩,
    ⟨{ full with inputs := [.word 0x1C000000FFFFFFFF] }, _, _, _, rfl, rfl⟩,
    ⟨{ full with inputs := [.word 0xE000000000000000] }, _, _, rfl, rfl⟩,
    ⟨{ full with inputs := [.word 0x0300000000000000] }, _, _, rfl, rfl⟩,
    ⟨{ full with inputs := [.irq 3 (1 <<< 13) 7] }, _, rfl⟩, rfl⟩

/-- Of CycleOrdersItsInputs: `rst` high and low, with an edge and a word in the cycle. -/
theorem test_witness_cycles :
    (∃ c : Cycle, c.rst = true ∧ c.opValid = true ∧ c.irq = 0b1111)
    ∧ ∃ c : Cycle, c.rst = false ∧ c.opValid = true ∧ c.irq.getLsbD 0 = true ∧ c.irq.getLsbD 3 = true :=
  ⟨⟨⟨true, 0, 0b1111, 0, true, 0⟩, rfl, rfl, rfl⟩, ⟨⟨false, 0, 0b1001, 0, true, 0⟩, rfl, rfl, rfl, rfl⟩⟩

/-- Of CanonicalWordsReencode, UnusedFieldsAreIgnored, OpcodeRowsSelect and ReservedWordsAreRefused. -/
theorem test_witness_words :
    OpWord.canonical 0x9CABCDEF00000000#64 = false ∧ OpWord.canonical 0x90ABCDEF00000000#64 = true
    ∧ OpWord.canonical 0xF000000000000000#64 = true
    ∧ (0x40000000DEADBEEF#64 &&& OpWord.usedBits (0x40000000DEADBEEF#64 >>> 60).toNat =
        0x4000000000000000#64 &&& OpWord.usedBits (0x40000000DEADBEEF#64 >>> 60).toNat)
    ∧ (0x40000000DEADBEEF#64 &&& 0xF300000000000000#64 = (Instr.rdRaw 2).opcode.zeroExtend 64 <<< 60)
    ∧ decode 0x40000000DEADBEEF#64 = .instr (.rdRaw 0)
    ∧ 0xB ≤ (0xB000000000000000#64 >>> 60).toNat ∧ (0xEFFFFFFFFFFFFFFF#64 >>> 60).toNat ≤ 0xE
    ∧ (0xF100000000000000#64).extractLsb' 56 2 ≠ 0#2 := by decide

/-- Of every statement whose one hypothesis is an occupied slot (EdgesMeasureTheInterval, FallTakesOneOfThreeCases,
OnlyFallRecordsTimestamp, EdgeSequenceRunsOnItsSlot, ReadFlagsAnswersTheFlags, ReadRawAnswersTheReading,
ClearFlagsClearsBoth, ReadConfigurationAnswersThePins, PowerOnRequestsTheLevel, DetachReleasesTheSlot), at the slots 0 and
3, and of PowerOffForgetsInitialized in both its clauses. -/
theorem test_witness_occupied :
    ((machine 0 channel).slot 0).occupied = true ∧ ((machine 0 channel).slot 0).powerPin = Config.pinNone
    ∧ ((machine 3 switched).slot 3).occupied = true ∧ ((machine 3 switched).slot 3).powerPin ≠ Config.pinNone := by
  decide

/-- Of FallTakesOneOfThreeCases: intervals that are short whatever `LONG_GAP_US` is, at position 0 and elsewhere. -/
theorem test_witness_fall_short (c : Slot) : ¬ Config.longGapUs < c.lastEdgeTimestamp - c.lastEdgeTimestamp := by simp

/-- Of FallGapRestartsFrame, just above the gap, and of CalibrationThresholdValue: at the longest short interval, without
and with a wrap. -/
theorem test_witness_fall :
    ((1000#32) < 11001 - (decoding 19 10000 5 2).lastEdgeTimestamp)
    ∧ (decoding 0 5000 0 0).bitPosition = 0 ∧ 6000 - (decoding 0 5000 0 0).lastEdgeTimestamp ≤ (1000#32)
    ∧ (10#32).toNat ≤ (5020 - (decoding 0 5000 0 0).lastEdgeTimestamp).toNat / 2
    ∧ ¬ (10#32).toNat ≤ (5019 - (decoding 0 5000 0 0).lastEdgeTimestamp).toNat / 2 := by decide

/-- Of ElapsedTimeIsMeasured: 120 microseconds across the wrap (V-E5). -/
theorem test_witness_elapsed :
    ((machine 0 (decoding 0 0xFFFFFFC4 0 0)).slot 0).lastEdgeTimestamp = BitVec.ofNat 32 (2 ^ 40 - 60)
    ∧ ((machine 0 (decoding 0 0xFFFFFFC4 0 0)).slot 0).occupied = true
    ∧ BitVec.ofNat 32 (2 ^ 40 - 60 + 120) = (0x3C#32) := by decide

/-- Of OnlyFallRecordsTimestamp, the second clause. -/
theorem test_witness_records :
    ∃ (op : Instr) (s u : State), exec op s = .next u ∧ ¬ Loads op s 0
      ∧ (u.slot 0).lastEdgeTimestamp ≠ (s.slot 0).lastEdgeTimestamp :=
  ⟨.fall 0 9, machine 0 channel, _, rfl, by simp [Loads], by show (9#32) ≠ 0; decide⟩

/-- Of RiseOutsideSamplingPosition (-1 and 0) and RiseSamplesOneBit (1, 18 and 20). -/
theorem test_witness_rise_positions :
    ∀ p ∈ [(-1 : Int), 0, 1, 18, 20], ((machine 2 (decoding p 7280 0 0)).slot 2).occupied = true
      ∧ (((machine 2 (decoding p 7280 0 0)).slot 2).bitPosition ≤ 0
        ∨ (1 ≤ ((machine 2 (decoding p 7280 0 0)).slot 2).bitPosition
          ∧ ((machine 2 (decoding p 7280 0 0)).slot 2).bitPosition ≠ 19)) := by decide

/-- Of RisePublishesNewReading: a new value on an initialised channel, and a repeated one on an un-initialised channel. -/
theorem test_witness_publish :
    atEnd.occupied = true ∧ atEnd.bitPosition = 19 ∧ (countAt atEnd 7310).getLsbD 0 = false
    ∧ (accumulatorAt atEnd 7310).extractLsb' 2 16 ≠ ({ atEnd with initialized := true } : Slot).rawValue
    ∧ ({ atEnd with rawValue := 0x1234 } : Slot).initialized = false
    ∧ (accumulatorAt atEnd 7310).extractLsb' 2 16 = ({ atEnd with rawValue := 0x1234 } : Slot).rawValue := by decide

/-- Of RiseKeepsRepeatedReading and RiseFlagsParityError. -/
theorem test_witness_keep_and_error :
    (countAt { atEnd with rawValue := 0x1234, initialized := true } 7310).getLsbD 0 = false
    ∧ (accumulatorAt { atEnd with rawValue := 0x1234, initialized := true } 7310).extractLsb' 2 16 = 0x1234
    ∧ (countAt atEnd 7370).getLsbD 0 = true ∧ atEnd.bitPosition = 19 ∧ atEnd.occupied = true := by decide

/-- Of FrameDecodes: the frames of V-F1 rows 3 and 10 from a fresh channel, with even and with odd parity. -/
theorem test_witness_frame :
    channel.bitPosition = -1 ∧ (∀ k, k < 19 → falls (k + 1) - falls k ≤ (1000#32))
    ∧ (∀ k, k < 16 → (0x1234#16).getLsbD k =
        decide (rises bits1234 (17 - k) - falls (17 - k) < ((falls 1 - falls 0) >>> 1) - 10))
    ∧ ((List.range 19).filter fun k =>
        decide (rises bits1234 (k + 1) - falls (k + 1) < ((falls 1 - falls 0) >>> 1) - 10)).length % 2 = 0
    ∧ ((List.range 19).filter fun k => decide (rises (bits1234.set 18 false) (k + 1) - falls (k + 1) <
        ((falls 1 - falls 0) >>> 1) - 10)).length % 2 = 1 := by decide +kernel

/-- Of FrameDecodes: the second way to begin a frame, a gap in mid-frame. -/
theorem test_witness_frame_gap : (1000#32) < falls 0 - (decoding 12 100 7 3).lastEdgeTimestamp := by decide

/-- Of EmptySlotIgnoresOperations. -/
theorem test_witness_empty : (Instr.fall 3 5).slot? = some 3 ∧ (State.reset.slot 3).occupied = false := by decide

/-- Of ReaderNeverTouchesTheDecoder: both clauses, the second on a slot whose decoder differs. -/
theorem test_witness_reader :
    (∃ u, Instr.pwrOff 0 ∈ readerOps 0 ∧ exec (.pwrOff 0) (machine 0 switched) = .next u)
    ∧ (∀ j, SameButDecoder ((machine 0 channel).slot j) ((machine 0 atEnd).slot j))
    ∧ ∃ u, exec (.clrFlags 0) (machine 0 atEnd) = .next u := by
  refine ⟨⟨_, by decide, rfl⟩, fun j => ?_, ⟨_, rfl⟩⟩
  rcases slotIndex_cases j with rfl | rfl | rfl | rfl <;> rfl

/-- Of AttachTakesTheLowestFreeSlot, at slot 0 and slot 3, and of AttachFailsWhenFull. -/
theorem test_witness_attach :
    (State.reset.slot 0).occupied = false ∧ (∀ j, j < (0 : SlotIndex) → (State.reset.slot j).occupied = true)
    ∧ ((full.setSlot 3 Slot.reset).slot 3).occupied = false
    ∧ (∀ j, j < (3 : SlotIndex) → ((full.setSlot 3 Slot.reset).slot j).occupied = true)
    ∧ ∀ i, (full.slot i).occupied = true := by decide

/-- Of OccupiedSlotsAreCounted: each clause, ATTACH with a free slot and with none. -/
theorem test_witness_counted :
    (∃ u, exec (.attach 1 2 3) State.reset = .next u ∧ u.resp ≠ 0x80000001#32)
    ∧ (∃ u, exec (.attach 1 2 3) full = .next u ∧ u.resp = 0x80000001#32)
    ∧ (∃ u, exec (.detach 2) full = .next u ∧ (full.slot 2).occupied = true)
    ∧ (∃ u, exec (.detach 2) State.reset = .next u ∧ (State.reset.slot 2).occupied = false)
    ∧ (∃ u, exec .reset full = .next u)
    ∧ ∃ u, exec (.rdRaw 0) full = .next u ∧ ∀ j, ¬ Loads (.rdRaw 0) full j :=
  ⟨⟨_, rfl, by decide⟩, ⟨_, rfl, by decide⟩, ⟨_, rfl, rfl⟩, ⟨_, rfl, rfl⟩, ⟨_, rfl⟩, ⟨_, rfl, by simp [Loads]⟩⟩

/-- Of HostDutyKeepsPinsDistinct: an ATTACH onto a machine with a channel. -/
theorem test_witness_duty :
    hostDuty (machine 0 channel) (.attach 8 5 0) = true ∧ DistinctPins (machine 0 channel)
    ∧ hostDuty (machine 0 channel) (.attach 7 5 0) = false
    ∧ ∃ u, exec (.attach 8 5 0) (machine 0 channel) = .next u := by
  refine ⟨by decide, ?_, by decide, _, rfl⟩
  unfold DistinctPins
  decide

/-- Of InvariantIsKept: a state of a run, and a step from it. -/
theorem test_witness_invariant :
    (machine 0 channel).Inv ∧ ∃ u, step { machine 0 channel with inputs := [.word 0x1000000000001388] } = .next u := by
  refine ⟨fun i => ?_, _, rfl⟩
  rcases slotIndex_cases i with rfl | rfl | rfl | rfl <;>
    exact ⟨by decide, by decide, by decide, fun h => absurd h (by decide)⟩

/-- A calibrated channel at position 19, its threshold that of a slot 0 too short to measure. -/
def calibrated : Slot := { atEnd with strobeThreshold := 0 - Config.calOffsetUs }

/-- Of InvariantIsKept: a state past position 0 whose threshold comes from a calibration, and both edges from it. -/
theorem test_witness_invariant_calibrated :
    (machine 0 calibrated).Inv ∧ 1 ≤ ((machine 0 calibrated).slot 0).bitPosition
    ∧ (∃ u, step { machine 0 calibrated with inputs := [.word 0x1000000000001388] } = .next u)
    ∧ ∃ u, step { machine 0 calibrated with inputs := [.word 0x2000000000001388] } = .next u := by
  refine ⟨fun i => ?_, by decide, ⟨_, rfl⟩, ⟨_, rfl⟩⟩
  rcases slotIndex_cases i with rfl | rfl | rfl | rfl
  · exact ⟨by decide, fun h => (by cases h), fun _ _ _ => ⟨rfl, rfl⟩,
      fun _ => by
        show 0 - Config.calOffsetUs + Config.calOffsetUs ≤ Config.longGapUs >>> 1
        rw [BitVec.sub_add_cancel]
        exact BitVec.le_def.mpr (Nat.zero_le _)⟩
  all_goals exact ⟨by decide, by decide, by decide, fun h => absurd h (by decide)⟩

/-- Of PositionMovesAsTheRulesSay: -1 after a RISE at 19, a FALL at 20, a moved position, and the ends of the range. -/
theorem test_witness_positions :
    (∃ u, exec (.rise 0 7310) (machine 0 atEnd) = .next u ∧ (u.slot 0).bitPosition = -1
      ∧ ¬ Loads (.rise 0 7310) (machine 0 atEnd) 0 ∧ (u.slot 0).bitPosition ≠ ((machine 0 atEnd).slot 0).bitPosition)
    ∧ (∃ u, exec (.fall 0 9) (machine 0 (decoding 20 0 0 0)) = .next u
      ∧ ((machine 0 (decoding 20 0 0 0)).slot 0).occupied = true
      ∧ ((machine 0 (decoding 20 0 0 0)).slot 0).bitPosition ≤ 20)
    ∧ ∃ u, exec (.rise 0 9) (machine 0 channel) = .next u ∧ (u.slot 0).bitPosition = -1
      ∧ -1 ≤ ((machine 0 channel).slot 0).bitPosition :=
  ⟨⟨_, rfl, by decide, by simp [Loads], by decide⟩, ⟨_, rfl, by decide, by decide⟩, ⟨_, rfl, by decide, by decide⟩⟩

/-- Of SlotsShareNothing: two states that agree on slot 1 only, and two that agree in what is occupied. -/
theorem test_witness_share :
    (Instr.clrFlags 1).slot? = some 1 ∧ full.slot 1 = (full.setSlot 0 channel).slot 1
    ∧ (∃ u v, exec (.clrFlags 1) full = .next u ∧ exec (.clrFlags 1) (full.setSlot 0 channel) = .next v)
    ∧ (∀ i, ((machine 0 channel).slot i).occupied = ((machine 0 switched).slot i).occupied)
    ∧ ∃ u v, exec (.attach 1 2 3) (machine 0 channel) = .next u ∧ exec (.attach 1 2 3) (machine 0 switched) = .next v :=
  ⟨rfl, rfl, ⟨_, _, rfl, rfl⟩, by decide, ⟨_, _, rfl, rfl⟩⟩

/-- Of DifferentSlotsCommute. -/
theorem test_witness_commute :
    ∃ ua uab ub uba, exec (.fall 0 9) full = .next ua ∧ exec (.rise 1 8) ua = .next uab
      ∧ exec (.rise 1 8) full = .next ub ∧ exec (.fall 0 9) ub = .next uba :=
  ⟨_, _, _, _, rfl, rfl, rfl, rfl⟩

/-- Of WriteOwnership and RawValueChangesOnlyByPublish: an operation that is no edge, a publish, an ATTACH and a slot it
does not take, and a DETACH of an empty slot. -/
theorem test_witness_ownership :
    (∃ u, exec (.pwrOff 0) (machine 0 switched) = .next u ∧ ¬ Loads (.pwrOff 0) (machine 0 switched) 0
      ∧ ∀ t, Instr.pwrOff 0 ≠ .fall 0 t ∧ Instr.pwrOff 0 ≠ .rise 0 t)
    ∧ (∃ u, exec (.rise 0 7310) (machine 0 atEnd) = .next u ∧ ¬ Loads (.rise 0 7310) (machine 0 atEnd) 0
      ∧ (u.slot 0).rawValue ≠ ((machine 0 atEnd).slot 0).rawValue)
    ∧ (∃ u, exec (.attach 1 2 3) (machine 0 switched) = .next u ∧ ¬ Loads (.attach 1 2 3) (machine 0 switched) 0
      ∧ Loads (.attach 1 2 3) (machine 0 switched) 1 ∧ ¬ Loads (.attach 1 2 3) (machine 0 switched) 2)
    ∧ ¬ Loads (.detach 2) (machine 0 switched) 2 :=
  ⟨⟨_, rfl, by simp [Loads], by simp⟩, ⟨_, rfl, by simp [Loads], by decide⟩,
    ⟨_, rfl, by rw [loads_attach]; decide, by rw [loads_attach]; decide, by rw [loads_attach]; decide⟩,
    by rw [loads_detach]; decide⟩

/-- Of FlagsChangeOnlyAsTheRulesSay: every flag set, by a publish and by a parity error, and every flag cleared. -/
theorem test_witness_flags :
    (∃ u, exec (.rise 0 7310) (machine 0 atEnd) = .next u ∧ iae ((machine 0 atEnd).slot 0) = (false, false, false)
      ∧ iae (u.slot 0) = (true, true, false))
    ∧ (∃ u, exec (.rise 0 7370) (machine 0 atEnd) = .next u ∧ iae (u.slot 0) = (false, false, true))
    ∧ (∃ u, exec (.pwrOff 0) (machine 0 switched) = .next u ∧ iae ((machine 0 switched).slot 0) = (true, true, true)
      ∧ iae (u.slot 0) = (false, true, true))
    ∧ (∃ u, exec (.clrFlags 0) (machine 0 switched) = .next u ∧ iae (u.slot 0) = (true, false, false))
    ∧ ¬ Loads (.rise 0 7310) (machine 0 atEnd) 0 ∧ ¬ Loads (.pwrOff 0) (machine 0 switched) 0
    ∧ ¬ Loads (.clrFlags 0) (machine 0 switched) 0 :=
  ⟨⟨_, rfl, by decide, by decide⟩, ⟨_, rfl, by decide⟩, ⟨_, rfl, by decide, by decide⟩, ⟨_, rfl, by decide⟩,
    by simp [Loads], by simp [Loads], by simp [Loads]⟩

/-- Of SideEffectsAndIdempotency: a read twice, a clear twice, and a successful ATTACH. -/
theorem test_witness_twice :
    (∃ u v, Instr.rdCfg 3 ∈ [Instr.rdFlags 3, .rdRaw 3, .rdCfg 3, .nop] ∧ exec (.rdCfg 3) full = .next u
      ∧ exec (.rdCfg 3) u = .next v)
    ∧ (∃ u v, Instr.detach 3 ∈ [Instr.clrFlags 3, .pwrOff 3, .pwrOn 3, .detach 3] ∧ exec (.detach 3) full = .next u
      ∧ exec (.detach 3) u = .next v)
    ∧ ∃ u, exec (.attach 1 2 3) (full.setSlot 3 Slot.reset) = .next u ∧ u.resp.getLsbD 31 = false :=
  ⟨⟨_, _, by decide, rfl, rfl⟩, ⟨_, _, by decide, rfl, rfl⟩, ⟨_, rfl, by decide⟩⟩

/-- Of HiddenStateIsUnobservable: two states that differ in `edgeInterval` and in the upper bits of `parityCount`. -/
theorem test_witness_hidden :
    (machine 0 atEnd).SameButHidden (machine 0 { atEnd with edgeInterval := 77, parityCount := 133 })
    ∧ ∃ u, step (machine 0 atEnd) = .next u := by
  refine ⟨⟨fun i => ?_, rfl, rfl, rfl⟩, _, rfl⟩
  rcases slotIndex_cases i with rfl | rfl | rfl | rfl <;> exact ⟨rfl, by decide⟩

/-- Of PublishedValueIsReadBack: edges, a clear, and an ATTACH and a DETACH of other slots. -/
theorem test_witness_read_back :
    ((machine 0 channel).slot 0).occupied = true
    ∧ (∀ op ∈ [Instr.attach 1 2 3, .fall 0 9, .clrFlags 0, .rise 1 9, .detach 1],
        op ≠ .detach 0 ∧ op ≠ .reset ∧ ∀ t, op ≠ .rise 0 t)
    ∧ ∃ u, execAll [Instr.attach 1 2 3, .fall 0 9, .clrFlags 0, .rise 1 9, .detach 1] (machine 0 channel) = .next u := by
  refine ⟨by decide, ?_, _, rfl⟩
  simp

/-- Of ContextsWriteOnlyTheirOwn: an edge context and the reader context. -/
theorem test_witness_contexts :
    (∃ u, (Agent.edge 0).mayIssue (.rise 0 7310) = true ∧ exec (.rise 0 7310) (machine 0 atEnd) = .next u)
    ∧ ∃ u, Agent.reader.mayIssue (.clrFlags 0) = true ∧ exec (.clrFlags 0) (machine 0 switched) = .next u
      ∧ ¬ Loads (.clrFlags 0) (machine 0 switched) 0 :=
  ⟨⟨_, by decide, rfl⟩, ⟨_, by decide, rfl, by simp [Loads]⟩⟩

/-- Of TryReadTimesOut and TryReadReturnsTheReading: a channel without and with a reading, and an externally powered one. -/
theorem test_witness_tryRead :
    ((machine 0 channel).slot 0).occupied = true ∧ ((machine 0 channel).slot 0).initialized = false
    ∧ ((machine 3 switched).slot 3).occupied = true ∧ ((machine 3 switched).slot 3).initialized = true
    ∧ ((machine 0 { channel with initialized := true }).slot 0).powerPin = Config.pinNone := by decide

/-- Of TryReadReturnsTheReading, the frame that completes in the wait: before the first poll, and after three polls at the
longest increment that leaves them within the bound; of TryReadTimesOut, what the other agents may do. -/
theorem test_witness_tryRead_wait :
    ((machine 0 atEnd).slot 0).initialized = false ∧ CompletesValid (.rise 0 7310) (machine 0 atEnd) 0
    ∧ (∀ k, k < 0 → k * 50000 < Config.readTimeoutUs) ∧ (∀ k, k < 3 → k * 49999 < Config.readTimeoutUs)
    ∧ ∀ op ∈ [Instr.fall 0 9, .rise 1 9, .attach 1 2 3, .clrFlags 0],
        op ≠ .detach 0 ∧ op ≠ .reset ∧ ∀ t, op ≠ .rise 0 t :=
  ⟨by decide, ⟨7310, rfl, by decide, by decide, by decide⟩, by decide, by decide, by simp⟩

/-- R180: the loop's break, in the second poll, by the frame of V-E9. -/
theorem test_tryRead_break :
    (tryReadFrom 50000 0 [[], [], [], [.rise 0 7310], [], [], []] .start (machine 0 atEnd)).1 = .done (.reading 0x1234) :=
  by decide

/-- P5: with a polling increment of 50 ms the third poll gives up; S3: an initialised channel is read. -/
theorem test_tryRead :
    tryReadFrom 50000 0 (List.replicate 9 []) .start (machine 0 channel) =
      (.done (.failed .initializationTimeout), { machine 0 channel with resp := 1 })
    ∧ tryReadFrom 50000 0 (List.replicate 9 []) .start
        (machine 0 { channel with initialized := true, rawValue := 0x8001, valueAvailable := true }) =
      (.done (.reading 0x8001), machine 0 { channel with initialized := true, rawValue := 0x8001 }) := ⟨rfl, rfl⟩

end Sys2Proof.Tests
end

section
/-! The slots share nothing (R40): what an operation that names a slot, and what an ATTACH, writes and reads. -/

namespace Sys2Proof.Machine

/-! ### The response and the requests of an operation on an occupied slot -/

theorem State.onOccupied_resp (s : State) (i : SlotIndex) (f : Slot → Slot) (r : RespWord) (q : List Request) :
    (s.onOccupied i f r q).resp = if (s.slot i).occupied then r else 0 := by
  unfold State.onOccupied; split <;> rfl

theorem State.onOccupied_requests (s : State) (i : SlotIndex) (f : Slot → Slot) (r : RespWord) (q : List Request) :
    (s.onOccupied i f r q).requests = if (s.slot i).occupied then q else [] := by
  unfold State.onOccupied; split <;> rfl

/-! ### Operations that name a slot -/

/-- The next state of an operation that names a slot is the one `exec_named` gives. -/
theorem eq_of_exec_named {op : Instr} {i : SlotIndex} {s u : State} (hi : op.slot? = some i)
    (h : exec op s = .next u) :
    u = s.onOccupied i (slotEffect op) (slotResponse op (s.slot i)) (slotRequests op (s.slot i)) := by
  rw [exec_named hi] at h
  exact (Host.Outcome.next.inj h).symm

/-- R40, the writes: an operation that names a slot leaves every other slot alone. -/
theorem exec_named_slot_ne {op : Instr} {i j : SlotIndex} {s u : State} (hi : op.slot? = some i)
    (h : exec op s = .next u) (hj : j ≠ i) : u.slot j = s.slot j := by
  rw [eq_of_exec_named hi h, State.onOccupied_slot_ne _ _ _ _ hj]

/-- R40, the reads: from two states that agree on the named slot, an operation makes the same of that slot and of the
output ports. -/
theorem exec_named_congr {op : Instr} {i : SlotIndex} {s s' u u' : State} (hi : op.slot? = some i)
    (hs : s.slot i = s'.slot i) (h : exec op s = .next u) (h' : exec op s' = .next u') :
    u.slot i = u'.slot i ∧ u.resp = u'.resp ∧ u.requests = u'.requests := by
  rw [eq_of_exec_named hi h, eq_of_exec_named hi h']
  refine ⟨?_, ?_, ?_⟩
  · rw [State.onOccupied_slot_same, State.onOccupied_slot_same, hs]
  · rw [State.onOccupied_resp, State.onOccupied_resp, hs]
  · rw [State.onOccupied_requests, State.onOccupied_requests, hs]

/-! ### ATTACH -/

/-- The search for a free slot reads `occupied` of the slots and nothing else. -/
theorem SlotArray.firstFree_congr {a b : SlotArray} (h : ∀ i, (a.get i).occupied = (b.get i).occupied) :
    a.firstFree = b.firstFree := by
  unfold SlotArray.firstFree
  simp only [h]

/-- What an ATTACH can do: with every slot occupied it fails and changes no slot (R141); else it loads the free slot
found, and no other (R140). -/
theorem exec_attach_cases {sig pwr : PinNumber} {typ : SensorCode} {s u : State}
    (h : exec (.attach sig pwr typ) s = .next u) :
    (s.slots.firstFree = none ∧ u = s.answer (failureResponse .slotExhausted) [])
    ∨ ∃ i, s.slots.firstFree = some i
      ∧ u = (s.setSlot i (Slot.attached sig pwr typ)).answer (attachResponse i) [.onEdge sig i] := by
  cases hf : s.slots.firstFree with
  | none =>
    rw [exec_attach_full hf] at h
    exact .inl ⟨rfl, (Host.Outcome.next.inj h).symm⟩
  | some i =>
    rw [exec_attach_free hf] at h
    exact .inr ⟨i, rfl, (Host.Outcome.next.inj h).symm⟩

/-- R40 for ATTACH: two states that agree in what is occupied get the same response and requests, and either no slot
changes or the same one is loaded with the same values. -/
theorem exec_attach_congr {sig pwr : PinNumber} {typ : SensorCode} {s s' u u' : State}
    (hocc : ∀ i, (s.slot i).occupied = (s'.slot i).occupied)
    (h : exec (.attach sig pwr typ) s = .next u) (h' : exec (.attach sig pwr typ) s' = .next u') :
    u.resp = u'.resp ∧ u.requests = u'.requests
    ∧ ((∀ j, u.slot j = s.slot j ∧ u'.slot j = s'.slot j)
      ∨ ∃ i, u.slot i = u'.slot i ∧ ∀ j, j ≠ i → u.slot j = s.slot j ∧ u'.slot j = s'.slot j) := by
  have hfree : s.slots.firstFree = s'.slots.firstFree := SlotArray.firstFree_congr hocc
  rcases exec_attach_cases h with ⟨hnone, rfl⟩ | ⟨i, hsome, rfl⟩
  · rw [hfree] at hnone
    rw [exec_attach_full hnone] at h'
    cases h'
    exact ⟨rfl, rfl, .inl fun _ => ⟨rfl, rfl⟩⟩
  · rw [hfree] at hsome
    rw [exec_attach_free hsome] at h'
    cases h'
    refine ⟨rfl, rfl, .inr ⟨i, by simp, fun j hj => ⟨?_, ?_⟩⟩⟩
    · exact State.slot_setSlot_ne s _ hj
    · exact State.slot_setSlot_ne s' _ hj

/-- Settles O50: an operation that names a slot acts through `onOccupied` on that slot alone, and an ATTACH reads the
slots only in its search for a free one. -/
theorem slotsShareNothing : Obligations.SlotsShareNothing :=
  ⟨fun _ _ _ _ hi h _ hj => exec_named_slot_ne hi h hj,
    fun _ _ _ _ _ _ hi hs h h' => exec_named_congr hi hs h h',
    fun _ _ _ _ _ _ _ hocc h h' => exec_attach_congr hocc h h'⟩

end Sys2Proof.Machine
end

section
/-! The edge operations on an occupied slot: which slot they change, and the interval they measure (R91, R96). -/

namespace Sys2Proof.Machine

/-! ### The interval an edge measures -/

/-- The end of a frame keeps the interval. -/
theorem Slot.complete_edgeInterval (c : Slot) : c.complete.edgeInterval = c.edgeInterval := by
  rcases Slot.complete_cases c with ⟨-, -, h⟩ | ⟨-, -, -, h⟩ | ⟨-, h⟩ <;> simp [h]

/-- R91 for a falling edge, in each of its three cases. -/
theorem Slot.fall_edgeInterval (longGap calOffset t : Timestamp) (c : Slot) :
    (c.fall longGap calOffset t).edgeInterval = t - c.lastEdgeTimestamp := by
  rcases Slot.fall_cases longGap calOffset t c with ⟨-, h⟩ | ⟨-, -, h⟩ | ⟨-, -, h⟩ <;> simp [h]

/-- R91 for a rising edge, at every position. -/
theorem Slot.rise_edgeInterval (t : Timestamp) (c : Slot) :
    (c.rise t).edgeInterval = t - c.lastEdgeTimestamp := by
  rcases Slot.rise_cases t c with ⟨-, h⟩ | ⟨-, h⟩ | ⟨-, -, h⟩ <;> simp [h, Slot.complete_edgeInterval]

/-- R91 for an edge of either level. -/
theorem Slot.edge_edgeInterval (longGap calOffset : Timestamp) (lvl : Bool) (t : Timestamp) (c : Slot) :
    (c.edge longGap calOffset lvl t).edgeInterval = t - c.lastEdgeTimestamp := by
  cases lvl with
  | false => exact Slot.fall_edgeInterval longGap calOffset t c
  | true => exact Slot.rise_edgeInterval t c

/-- R96: at position -1 or 0 a rising edge only measures. -/
theorem Slot.rise_of_position_nonpos (t : Timestamp) {c : Slot} (h : c.bitPosition ≤ 0) : c.rise t = c.measure t :=
  if_pos h

/-! ### Operations on an occupied slot -/

/-- An operation that names an occupied slot makes of it what `slotEffect` says, and changes no other slot. -/
theorem exec_named_becomes {op : Instr} {i : SlotIndex} {s : State} (hi : op.slot? = some i)
    (hocc : (s.slot i).occupied = true) :
    ∃ u, exec op s = .next u ∧ SlotBecomes s u i (slotEffect op (s.slot i)) := by
  refine ⟨_, exec_named hi s, ?_, fun j hj => ?_, ?_⟩
  · rw [State.onOccupied_slot_same, if_pos hocc]
  · exact State.onOccupied_slot_ne s _ _ _ hj
  · exact State.onOccupied_inputs s i _ _ _

@[simp] theorem edgeInstr_slot? (i : SlotIndex) (lvl : Bool) (t : Timestamp) :
    (edgeInstr i lvl t).slot? = some i := by
  cases lvl <;> rfl

/-- An edge operation runs the decoder at the constants of the block. -/
@[simp] theorem slotEffect_edgeInstr (i : SlotIndex) (lvl : Bool) (t : Timestamp) (c : Slot) :
    slotEffect (edgeInstr i lvl t) c = c.edge Config.longGapUs Config.calOffsetUs lvl t := by
  cases lvl <;> rfl

/-! ### The statements -/

/-- Settles O17: each case of a falling and of a rising edge keeps the interval measured first. -/
theorem edgesMeasureTheInterval : Obligations.EdgesMeasureTheInterval := by
  intro s i t lvl hocc
  obtain ⟨u, hu, hslot, -, -⟩ := exec_named_becomes (edgeInstr_slot? i lvl t) hocc
  refine ⟨u, hu, ?_⟩
  rw [hslot, slotEffect_edgeInstr, Slot.edge_edgeInterval]

/-- Settles O23: below position 1 the decoder does no more than `Slot.measure`. -/
theorem riseOutsideSamplingPosition : Obligations.RiseOutsideSamplingPosition := by
  intro s i t hocc hpos
  obtain ⟨u, hu, hbecomes⟩ := exec_named_becomes (edgeInstr_slot? i true t) hocc
  rw [slotEffect_edgeInstr, Slot.edge_rise, Slot.rise_of_position_nonpos t hpos] at hbecomes
  exact ⟨u, hu, hbecomes⟩

end Sys2Proof.Machine
end

section
/-! The reader operations (41_reader_ops.md): what they may change of a slot and what they may read of it (R125), CLR_FLAGS
(R123), and the reading that RD_RAW repeats until a rising edge or a release (R60, R122). -/

namespace Sys2Proof.Machine

/-! ### Slots that differ only in the decoder's fields -/

/-- The fields outside the decoder, one by one. -/
theorem sameButDecoder_iff {c d : Slot} :
    SameButDecoder c d ↔ d.occupied = c.occupied ∧ d.signalPin = c.signalPin ∧ d.powerPin = c.powerPin
      ∧ d.sensorType = c.sensorType ∧ d.rawValue = c.rawValue ∧ d.initialized = c.initialized
      ∧ d.valueAvailable = c.valueAvailable ∧ d.parityError = c.parityError := by
  cases c
  cases d
  simp [SameButDecoder]

section SameButDecoder

variable {c d : Slot}

theorem SameButDecoder.occupied_eq (h : SameButDecoder c d) : d.occupied = c.occupied :=
  (sameButDecoder_iff.mp h).1

theorem SameButDecoder.externallyPowered_eq (h : SameButDecoder c d) :
    d.externallyPowered = c.externallyPowered := by
  obtain ⟨-, -, hpower, -⟩ := sameButDecoder_iff.mp h
  simp [Slot.externallyPowered, hpower]

theorem SameButDecoder.clearFlags (h : SameButDecoder c d) : SameButDecoder c.clearFlags d.clearFlags := by
  rw [sameButDecoder_iff] at h ⊢
  simp [h]

theorem SameButDecoder.uninitialize (h : SameButDecoder c d) : SameButDecoder c.uninitialize d.uninitialize := by
  rw [sameButDecoder_iff] at h ⊢
  simp [h]

/-- PWR_OFF decides by `powerPin` alone, which is no decoder field. -/
theorem SameButDecoder.powerOff (h : SameButDecoder c d) : SameButDecoder c.powerOff d.powerOff := by
  unfold Slot.powerOff
  rw [h.externallyPowered_eq]
  split
  · exact h
  · exact h.uninitialize

theorem SameButDecoder.powerRequest_eq (h : SameButDecoder c d) (level : Bool) :
    powerRequest level d = powerRequest level c := by
  obtain ⟨-, -, hpower, -⟩ := sameButDecoder_iff.mp h
  simp [powerRequest, h.externallyPowered_eq, hpower]

theorem SameButDecoder.flagsResponse_eq (h : SameButDecoder c d) : flagsResponse d = flagsResponse c := by
  rw [sameButDecoder_iff] at h
  simp [flagsResponse, h]

theorem SameButDecoder.rawResponse_eq (h : SameButDecoder c d) : rawResponse d = rawResponse c := by
  rw [sameButDecoder_iff] at h
  simp [rawResponse, h]

theorem SameButDecoder.cfgResponse_eq (h : SameButDecoder c d) (i : SlotIndex) :
    cfgResponse i d = cfgResponse i c := by
  rw [sameButDecoder_iff] at h
  simp [cfgResponse, h]

end SameButDecoder

/-! ### What a reader operation does to its slot -/

/-- The six reader operations, in the order of `readerOps`. -/
theorem readerOps_cases {op : Instr} {i : SlotIndex} (h : op ∈ readerOps i) :
    op = .rdFlags i ∨ op = .rdRaw i ∨ op = .clrFlags i ∨ op = .rdCfg i ∨ op = .pwrOn i ∨ op = .pwrOff i := by
  simpa [readerOps] using h

theorem readerOps_slot? {op : Instr} {i : SlotIndex} (h : op ∈ readerOps i) : op.slot? = some i := by
  rcases readerOps_cases h with rfl | rfl | rfl | rfl | rfl | rfl <;> rfl

/-- No reader operation is one of the three that load a slot. -/
theorem readerOps_not_loads {op : Instr} {i : SlotIndex} (h : op ∈ readerOps i) (s : State) (j : SlotIndex) :
    ¬ Loads op s j := by
  rcases readerOps_cases h with rfl | rfl | rfl | rfl | rfl | rfl <;> simp [Loads]

/-- PWR_OFF leaves the slot or marks it un-initialised (R127). -/
theorem Slot.powerOff_cases (c : Slot) : c.powerOff = c ∨ c.powerOff = c.uninitialize := by
  unfold Slot.powerOff
  split
  · exact .inl rfl
  · exact .inr rfl

/-- A reader operation leaves its slot, clears the two event flags, or marks it un-initialised. -/
theorem slotEffect_reader_cases {op : Instr} {i : SlotIndex} (h : op ∈ readerOps i) (c : Slot) :
    slotEffect op c = c ∨ slotEffect op c = c.clearFlags ∨ slotEffect op c = c.uninitialize := by
  rcases readerOps_cases h with rfl | rfl | rfl | rfl | rfl | rfl
  exacts [.inl rfl, .inl rfl, .inr (.inl rfl), .inl rfl, .inl rfl, c.powerOff_cases.imp_right .inr]

/-- What a reader operation can make of any slot of the array. -/
theorem exec_reader_slot_cases {op : Instr} {i : SlotIndex} {s u : State} (hop : op ∈ readerOps i)
    (h : exec op s = .next u) (j : SlotIndex) :
    u.slot j = s.slot j ∨ u.slot j = (s.slot j).clearFlags ∨ u.slot j = (s.slot j).uninitialize := by
  rcases exec_slot_not_loaded h (readerOps_not_loads hop s j) with hkept | ⟨-, -, heffect⟩
  · exact .inl hkept
  · rw [heffect]
    exact slotEffect_reader_cases hop _

/-! ### What a reader operation reads of its slot -/

section Reads

variable {op : Instr} {i : SlotIndex} {c d : Slot}

theorem SameButDecoder.slotEffect_reader (hop : op ∈ readerOps i) (h : SameButDecoder c d) :
    SameButDecoder (slotEffect op c) (slotEffect op d) := by
  rcases readerOps_cases hop with rfl | rfl | rfl | rfl | rfl | rfl
  exacts [h, h, h.clearFlags, h, h, h.powerOff]

theorem SameButDecoder.slotResponse_reader (hop : op ∈ readerOps i) (h : SameButDecoder c d) :
    slotResponse op d = slotResponse op c := by
  rcases readerOps_cases hop with rfl | rfl | rfl | rfl | rfl | rfl
  exacts [h.flagsResponse_eq, h.rawResponse_eq, rfl, h.cfgResponse_eq i, rfl, rfl]

theorem SameButDecoder.slotRequests_reader (hop : op ∈ readerOps i) (h : SameButDecoder c d) :
    slotRequests op d = slotRequests op c := by
  rcases readerOps_cases hop with rfl | rfl | rfl | rfl | rfl | rfl
  exacts [rfl, rfl, rfl, rfl, h.powerRequest_eq _, h.powerRequest_eq _]

end Reads

/-- R125, the reads: from states that differ only in decoder fields, a reader operation answers and requests the same and
leaves states that differ only in decoder fields. -/
theorem exec_reader_sameButDecoder {op : Instr} {i : SlotIndex} {s s' u u' : State} (hop : op ∈ readerOps i)
    (hs : ∀ j, SameButDecoder (s.slot j) (s'.slot j)) (h : exec op s = .next u) (h' : exec op s' = .next u') :
    u'.resp = u.resp ∧ u'.requests = u.requests ∧ ∀ j, SameButDecoder (u.slot j) (u'.slot j) := by
  have hi : op.slot? = some i := readerOps_slot? hop
  rw [eq_of_exec_named hi h, eq_of_exec_named hi h']
  refine ⟨?_, ?_, fun j => ?_⟩
  · rw [State.onOccupied_resp, State.onOccupied_resp, (hs i).occupied_eq, (hs i).slotResponse_reader hop]
  · rw [State.onOccupied_requests, State.onOccupied_requests, (hs i).occupied_eq, (hs i).slotRequests_reader hop]
  · by_cases hj : j = i
    · subst hj
      rw [State.onOccupied_slot_same, State.onOccupied_slot_same, (hs j).occupied_eq]
      split
      · exact (hs j).slotEffect_reader hop
      · exact hs j
    · rw [State.onOccupied_slot_ne _ _ _ _ hj, State.onOccupied_slot_ne _ _ _ _ hj]
      exact hs j

/-! ### The reading is kept -/

/-- On an occupied slot, an operation that names it answers and requests what `slotResponse` and `slotRequests` read from
the slot as it was. -/
theorem exec_named_answers {op : Instr} {i : SlotIndex} {s : State} (hi : op.slot? = some i)
    (hocc : (s.slot i).occupied = true) :
    ∃ u, exec op s = .next u ∧ u.resp = slotResponse op (s.slot i) ∧ u.requests = slotRequests op (s.slot i)
      ∧ SlotBecomes s u i (slotEffect op (s.slot i)) := by
  obtain ⟨u, hu, hbecomes⟩ := exec_named_becomes hi hocc
  refine ⟨u, hu, ?_, ?_, hbecomes⟩
  · rw [eq_of_exec_named hi hu, State.onOccupied_resp, if_pos hocc]
  · rw [eq_of_exec_named hi hu, State.onOccupied_requests, if_pos hocc]

/-- A falling edge publishes nothing, in each of its three cases (R92 to R95). -/
theorem Slot.fall_keeps_reading (longGap calOffset t : Timestamp) (c : Slot) :
    (c.fall longGap calOffset t).occupied = c.occupied ∧ (c.fall longGap calOffset t).rawValue = c.rawValue := by
  rcases Slot.fall_cases longGap calOffset t c with ⟨-, h⟩ | ⟨-, -, h⟩ | ⟨-, -, h⟩ <;> simp [h]

/-- Of the operations that name a slot, only RISE and DETACH write `occupied` or `rawValue`. -/
theorem slotEffect_keeps_reading {op : Instr} {i : SlotIndex} (hi : op.slot? = some i) (hdetach : op ≠ .detach i)
    (hrise : ∀ t, op ≠ .rise i t) (c : Slot) :
    (slotEffect op c).occupied = c.occupied ∧ (slotEffect op c).rawValue = c.rawValue := by
  cases op with
  | fall k t => exact Slot.fall_keeps_reading _ _ t c
  | rise k t => exact absurd (congrArg (Instr.rise · t) (Option.some.inj hi)) (hrise t)
  | detach k => exact absurd (congrArg Instr.detach (Option.some.inj hi)) hdetach
  | clrFlags k => exact ⟨rfl, rfl⟩
  | pwrOff k => rcases c.powerOff_cases with h | h <;> simp [slotEffect, h]
  | nop | rdFlags k | rdRaw k | pwrOn k | rdCfg k | attach sig pwr typ | reset => exact ⟨rfl, rfl⟩

/-- Only ATTACH of a free slot, DETACH of the slot, and RESET load a slot. -/
theorem not_loads_of_occupied {op : Instr} {s : State} {i : SlotIndex} (hocc : (s.slot i).occupied = true)
    (hdetach : op ≠ .detach i) (hreset : op ≠ .reset) : ¬ Loads op s i := by
  rintro (⟨sig, pwr, typ, rfl, hfree⟩ | ⟨hop, -⟩ | hop)
  · exact not_loads_attach hocc sig pwr typ (.inl ⟨sig, pwr, typ, rfl, hfree⟩)
  · exact hdetach hop
  · exact hreset hop

/-- One operation other than RISE and DETACH of an occupied slot and RESET leaves it occupied with the reading it had. -/
theorem exec_keeps_reading {op : Instr} {i : SlotIndex} {s u : State} (hocc : (s.slot i).occupied = true)
    (hop : op ≠ .detach i ∧ op ≠ .reset ∧ ∀ t, op ≠ .rise i t) (h : exec op s = .next u) :
    (u.slot i).occupied = true ∧ (u.slot i).rawValue = (s.slot i).rawValue := by
  obtain ⟨hdetach, hreset, hrise⟩ := hop
  rcases exec_slot_not_loaded h (not_loads_of_occupied hocc hdetach hreset) with hkept | ⟨hi, -, heffect⟩
  · rw [hkept]
    exact ⟨hocc, rfl⟩
  · obtain ⟨hoccKept, hrawKept⟩ := slotEffect_keeps_reading hi hdetach hrise (s.slot i)
    rw [heffect]
    exact ⟨hoccKept.trans hocc, hrawKept⟩

/-- A sequence that ends in a next state passes through one after its first operation. -/
theorem execAll_cons {op : Instr} {ops : List Instr} {s u : State} (h : execAll (op :: ops) s = .next u) :
    ∃ v, exec op s = .next v ∧ execAll ops v = .next u := by
  cases hv : exec op s with
  | next v => exact ⟨v, rfl, by simpa only [execAll, hv] using h⟩
  | fault r => cases r
  | refused r => simp [execAll, hv] at h

/-- A sequence of such operations leaves the slot occupied with the reading it had. -/
theorem execAll_keeps_reading {ops : List Instr} {i : SlotIndex} {s u : State} (hocc : (s.slot i).occupied = true)
    (hops : ∀ op, op ∈ ops → op ≠ .detach i ∧ op ≠ .reset ∧ ∀ t, op ≠ .rise i t) (h : execAll ops s = .next u) :
    (u.slot i).occupied = true ∧ (u.slot i).rawValue = (s.slot i).rawValue := by
  induction ops generalizing s with
  | nil =>
    cases h
    exact ⟨hocc, rfl⟩
  | cons op ops ih =>
    obtain ⟨v, hv, hrest⟩ := execAll_cons h
    obtain ⟨hoccV, hrawV⟩ := exec_keeps_reading hocc (hops op List.mem_cons_self) hv
    obtain ⟨hoccU, hrawU⟩ := ih hoccV (fun op' hmem => hops op' (List.mem_cons_of_mem op hmem)) hrest
    exact ⟨hoccU, hrawU.trans hrawV⟩

/-! ### The statements -/

/-- Settles O36: the effect of CLR_FLAGS on an occupied slot is `Slot.clearFlags`, one update of both flags. -/
theorem clearFlagsClearsBoth : Obligations.ClearFlagsClearsBoth :=
  fun _ i hocc => exec_named_answers (op := .clrFlags i) rfl hocc

/-- Settles O40: the writes by the three things a reader operation can make of a slot, the reads by two runs. -/
theorem readerNeverTouchesTheDecoder : Obligations.ReaderNeverTouchesTheDecoder := by
  intro s u op i hop h
  refine ⟨fun j => ?_, fun s' u' hs h' => exec_reader_sameButDecoder hop hs h h'⟩
  rcases exec_reader_slot_cases hop h j with hj | hj | hj <;> simp [hj]

/-- Settles O57: the operations before it leave the slot occupied with its reading, which RD_RAW answers. -/
theorem publishedValueIsReadBack : Obligations.PublishedValueIsReadBack := by
  intro ops i s u hocc hops h
  obtain ⟨hoccU, hrawU⟩ := execAll_keeps_reading hocc hops h
  obtain ⟨v, hv, hresp, -, -⟩ := exec_named_answers (op := .rdRaw i) rfl hoccU
  refine ⟨v, hv, ?_⟩
  rw [hresp, ← hrawU]
  rfl

end Sys2Proof.Machine
end

section
/-! The operation word: its seven fields, what the decoder accepts, and the two round trips (30_encoding.md). -/

namespace Sys2Proof

/-! ### A word and its seven fields -/

/-- The `slot` field of a word as bits, where `slotField` gives the index. -/
def slotBits (w : OpWord) : BitVec 2 := w.extractLsb' 58 2

/-- A word is its seven fields, one beside the other (R80). -/
theorem fields_append (w : OpWord) :
    opField w ++ slotBits w ++ rsvField w ++ sigField w ++ pwrField w ++ typField w ++ tsField w = w := by
  simp only [opField, slotBits, rsvField, sigField, pwrField, typField, tsField]
  rw [BitVec.extractLsb'_append_extractLsb'_eq_extractLsb' (start₂ := 60) (start₁ := 58) rfl,
    BitVec.extractLsb'_append_extractLsb'_eq_extractLsb' (start₂ := 58) (start₁ := 56) rfl,
    BitVec.extractLsb'_append_extractLsb'_eq_extractLsb' (start₂ := 56) (start₁ := 48) rfl,
    BitVec.extractLsb'_append_extractLsb'_eq_extractLsb' (start₂ := 48) (start₁ := 40) rfl,
    BitVec.extractLsb'_append_extractLsb'_eq_extractLsb' (start₂ := 40) (start₁ := 32) rfl,
    BitVec.extractLsb'_append_extractLsb'_eq_extractLsb' (start₂ := 32) (start₁ := 0) rfl]
  exact BitVec.extractLsb'_eq_self

/-- Words with the same seven fields are the same word. -/
theorem word_ext {w v : OpWord} (hop : opField w = opField v) (hslot : slotBits w = slotBits v)
    (hrsv : rsvField w = rsvField v) (hsig : sigField w = sigField v) (hpwr : pwrField w = pwrField v)
    (htyp : typField w = typField v) (hts : tsField w = tsField v) : w = v := by
  rw [← fields_append w, ← fields_append v, hop, hslot, hrsv, hsig, hpwr, htyp, hts]

/-- The `op` field as the number that the checks of a word compare (R83). -/
theorem shiftRight_toNat_eq (w : OpWord) : (w >>> 60).toNat = (opField w).toNat := by
  have := w.isLt
  rw [BitVec.toNat_ushiftRight, opField, BitVec.extractLsb'_toNat, Nat.shiftRight_eq_div_pow]
  omega

@[simp] theorem slotBits_layout (op : BitVec 4) (slot : SlotIndex) (sig pwr : PinNumber) (typ : SensorCode)
    (ts : Timestamp) : slotBits (layout op slot sig pwr typ ts) = BitVec.ofFin slot :=
  congrArg BitVec.ofFin (slotField_layout op slot sig pwr typ ts)

/-! ### Masked words -/

section
variable (w v : OpWord)

theorem opField_and : opField (w &&& v) = opField w &&& opField v := BitVec.extractLsb'_and
theorem slotBits_and : slotBits (w &&& v) = slotBits w &&& slotBits v := BitVec.extractLsb'_and
theorem rsvField_and : rsvField (w &&& v) = rsvField w &&& rsvField v := BitVec.extractLsb'_and
theorem sigField_and : sigField (w &&& v) = sigField w &&& sigField v := BitVec.extractLsb'_and
theorem pwrField_and : pwrField (w &&& v) = pwrField w &&& pwrField v := BitVec.extractLsb'_and
theorem typField_and : typField (w &&& v) = typField w &&& typField v := BitVec.extractLsb'_and
theorem tsField_and : tsField (w &&& v) = tsField w &&& tsField v := BitVec.extractLsb'_and


/-- Every operation uses the `op` field (R80). -/
@[simp] theorem opField_and_usedBits (n : Nat) : opField (w &&& OpWord.usedBits n) = opField w := by
  have hmask : opField (OpWord.usedBits n) = BitVec.allOnes 4 := by unfold OpWord.usedBits; split <;> decide
  rw [opField_and, hmask, BitVec.and_allOnes]

/-- No operation leaves the `rsv` field unread (R83). -/
@[simp] theorem rsvField_and_usedBits (n : Nat) : rsvField (w &&& OpWord.usedBits n) = rsvField w := by
  have hmask : rsvField (OpWord.usedBits n) = BitVec.allOnes 2 := by unfold OpWord.usedBits; split <;> decide
  rw [rsvField_and, hmask, BitVec.and_allOnes]

/-- A word without `rsv` bits, masked, is laid out of its masked fields. -/
theorem and_eq_layout {w m : OpWord} {op : BitVec 4} {slot : SlotIndex} {sig pwr : PinNumber} {typ : SensorCode}
    {ts : Timestamp} (hrsv : rsvField w = 0#2) (hop : opField w &&& opField m = op)
    (hslot : slotBits w &&& slotBits m = BitVec.ofFin slot) (hsig : sigField w &&& sigField m = sig)
    (hpwr : pwrField w &&& pwrField m = pwr) (htyp : typField w &&& typField m = typ)
    (hts : tsField w &&& tsField m = ts) : w &&& m = layout op slot sig pwr typ ts := by
  apply word_ext
  case hop => rw [opField_and, opField_layout, hop]
  case hslot => rw [slotBits_and, slotBits_layout, hslot]
  case hrsv => rw [rsvField_and, rsvField_layout, hrsv, BitVec.zero_and]
  case hsig => rw [sigField_and, sigField_layout, hsig]
  case hpwr => rw [pwrField_and, pwrField_layout, hpwr]
  case htyp => rw [typField_and, typField_layout, htyp]
  case hts => rw [tsField_and, tsField_layout, hts]

section
variable {w : OpWord} (h : rsvField w = 0#2)
include h

/-- The bits that FALL and RISE use are the `op`, `slot` and `ts` fields. -/
theorem and_edgeBits : w &&& 0xFF000000FFFFFFFF#64 = layout (opField w) (slotField w) 0 0 0 (tsField w) :=
  and_eq_layout h BitVec.and_allOnes BitVec.and_allOnes BitVec.and_zero BitVec.and_zero BitVec.and_zero
    BitVec.and_allOnes

/-- The bits that the other operations on a slot use are the `op` and `slot` fields. -/
theorem and_slotBits : w &&& 0xFF00000000000000#64 = layout (opField w) (slotField w) 0 0 0 0 :=
  and_eq_layout h BitVec.and_allOnes BitVec.and_allOnes BitVec.and_zero BitVec.and_zero BitVec.and_zero
    BitVec.and_zero

/-- The bits that ATTACH uses are the `op` field and the three operands. -/
theorem and_attachBits :
    w &&& 0xF3FFFFFF00000000#64 = layout (opField w) 0 (sigField w) (pwrField w) (typField w) 0 :=
  and_eq_layout h BitVec.and_allOnes BitVec.and_zero BitVec.and_allOnes BitVec.and_allOnes BitVec.and_allOnes
    BitVec.and_zero

/-- The bits that NOP and RESET use are the `op` field. -/
theorem and_opBits : w &&& 0xF300000000000000#64 = layout (opField w) 0 0 0 0 0 :=
  and_eq_layout h BitVec.and_allOnes BitVec.and_zero BitVec.and_zero BitVec.and_zero BitVec.and_zero BitVec.and_zero

end

end

/-! ### The checks of a word, on its fields -/

theorem opAllowed_iff (w : OpWord) :
    OpWord.opAllowed w = true ↔ (opField w).toNat < 0xB ∨ (opField w).toNat = 0xF := by
  rw [OpWord.opAllowed, shiftRight_toNat_eq, Bool.or_eq_true, decide_eq_true_eq, decide_eq_true_eq]

theorem rsvZero_iff (w : OpWord) : OpWord.rsvZero w = true ↔ rsvField w = 0#2 := by
  have hmask : rsvField (w &&& 0x0300000000000000#64) = rsvField w := by
    rw [rsvField_and, show rsvField 0x0300000000000000#64 = BitVec.allOnes 2 by decide, BitVec.and_allOnes]
  rw [OpWord.rsvZero, decide_eq_true_eq]
  constructor
  · intro h
    rw [← hmask, h]
    decide
  · intro h
    exact (and_eq_layout h BitVec.and_zero BitVec.and_zero BitVec.and_zero BitVec.and_zero BitVec.and_zero
      BitVec.and_zero).trans (by decide : layout 0 0 0 0 0 0 = 0#64)

theorem wellFormed_iff (w : OpWord) :
    OpWord.wellFormed w = true ↔ ((opField w).toNat < 0xB ∨ (opField w).toNat = 0xF) ∧ rsvField w = 0#2 := by
  rw [OpWord.wellFormed, Bool.and_eq_true, opAllowed_iff, rsvZero_iff]

/-! ### What the decoder accepts -/

/-- A word with `rsv = 0` is decoded by its `op` field. -/
theorem decode_of_rsv {w : OpWord} (h : rsvField w = 0#2) : decode w = decodeOp w := if_pos h

theorem decode_of_rsv_ne {w : OpWord} (h : rsvField w ≠ 0#2) : decode w = .reserved .reservedField := if_neg h

/-- The decoder accepts exactly the words that are not reserved (R81, R83). -/
theorem decode_instr_iff (w : OpWord) : (∃ i, decode w = .instr i) ↔ OpWord.wellFormed w = true := by
  rw [wellFormed_iff]
  by_cases hrsv : rsvField w = 0#2
  · rw [decode_of_rsv hrsv]
    unfold decodeOp
    split <;> simp_all
    omega
  · simp [decode_of_rsv_ne hrsv, hrsv]

/-- What the decoder does not accept it refuses by name. -/
theorem decode_reserved_iff (w : OpWord) : (∃ why, decode w = .reserved why) ↔ ¬ OpWord.wellFormed w = true := by
  rw [← decode_instr_iff]
  cases decode w <;> simp

/-- The reason for which a word is refused; where both hold, the reserved field is named. -/
theorem decode_of_not_wellFormed {w : OpWord} (h : ¬ OpWord.wellFormed w = true) :
    decode w = .reserved (if rsvField w = 0#2 then .reservedOp else .reservedField) := by
  by_cases hrsv : rsvField w = 0#2
  · rw [wellFormed_iff] at h
    rw [decode_of_rsv hrsv, if_pos hrsv]
    unfold decodeOp
    split <;> simp_all
  · rw [decode_of_rsv_ne hrsv, if_neg hrsv]

/-- The operation a word decodes to has the code in the word's `op` field. -/
theorem opField_of_decode {w : OpWord} {i : Instr} (h : decode w = .instr i) :
    opField w = i.opcode ∧ rsvField w = 0#2 := by
  by_cases hrsv : rsvField w = 0#2
  · rw [decode_of_rsv hrsv] at h
    unfold decodeOp at h
    refine ⟨BitVec.eq_of_toNat_eq ?_, hrsv⟩
    split at h <;> cases h <;> assumption
  · rw [decode_of_rsv_ne hrsv] at h
    cases h

/-! ### Encoding and decoding -/

theorem decode_encode (i : Instr) : decode (encode i) = .instr i := by
  cases i <;> simp [encode, decode, decodeOp, Instr.opcode]

/-- Encoding what a word decodes to keeps the bits the operation uses and clears the others. -/
theorem encode_of_decode {w : OpWord} {i : Instr} (h : decode w = .instr i) :
    encode i = w &&& OpWord.usedBits (w >>> 60).toNat := by
  obtain ⟨hop, hrsv⟩ := opField_of_decode h
  rw [shiftRight_toNat_eq, hop]
  have hedge := and_edgeBits hrsv
  have hslot := and_slotBits hrsv
  have hattach := and_attachBits hrsv
  have hnone := and_opBits hrsv
  rw [decode_of_rsv hrsv] at h
  unfold decodeOp at h
  rw [hop] at hedge hslot hattach hnone
  split at h <;> cases h
  case h_2 | h_3 => exact hedge.symm
  case h_10 => exact hattach.symm
  case h_1 | h_12 => exact hnone.symm
  all_goals exact hslot.symm

/-- The decoder reads no bit but those the operation uses (R80). -/
theorem decode_and_usedBits (w : OpWord) : decode (w &&& OpWord.usedBits (w >>> 60).toNat) = decode w := by
  by_cases hw : OpWord.wellFormed w = true
  · obtain ⟨i, hi⟩ := (decode_instr_iff w).mpr hw
    rw [← encode_of_decode hi, decode_encode, hi]
  · have hmasked : ¬ OpWord.wellFormed (w &&& OpWord.usedBits (w >>> 60).toNat) = true := by
      rwa [wellFormed_iff, opField_and_usedBits, rsvField_and_usedBits, ← wellFormed_iff]
    rw [decode_of_not_wellFormed hw, decode_of_not_wellFormed hmasked, rsvField_and_usedBits]

/-- A word selects a row of R81 exactly where its `op` field is the row's code and its `rsv` field is 0. -/
theorem and_selectMask_eq_iff (w : OpWord) (op : BitVec 4) :
    w &&& 0xF300000000000000#64 = op.zeroExtend 64 <<< 60 ↔ opField w = op ∧ rsvField w = 0#2 := by
  have hlayout : layout op 0 0 0 0 0 = op.zeroExtend 64 <<< 60 := by
    have hmask := and_opBits (rsvField_layout op 0 0 0 0 0)
    rw [opField_layout] at hmask
    exact hmask.symm.trans (Laws.layout_selectMask op 0 0 0 0 0)
  rw [← hlayout]
  constructor
  · intro h
    have hop := congrArg opField h
    have hrsv := congrArg rsvField h
    rw [opField_and, opField_layout] at hop
    rw [rsvField_and, rsvField_layout] at hrsv
    exact ⟨BitVec.and_allOnes.symm.trans hop, BitVec.and_allOnes.symm.trans hrsv⟩
  · rintro ⟨rfl, hrsv⟩
    exact and_opBits hrsv

/-! ### The statements -/

/-- Settles O5: the decoder undoes the encoder, so the encoding is a well-formed word that holds only the bits its
operation uses. -/
theorem decodeEncodeRoundTrip : Obligations.DecodeEncodeRoundTrip := by
  intro i
  have hdecode := decode_encode i
  have hword : OpWord.wellFormed (encode i) = true := (decode_instr_iff _).mp ⟨i, hdecode⟩
  have hunused : OpWord.unusedZero (encode i) = true := decide_eq_true (encode_of_decode hdecode).symm
  exact ⟨by cases i <;> simp [Instr.wellFormed, Config.nChannels], by simp [OpWord.canonical, hword, hunused], hdecode⟩

/-- Settles O6: a canonical word is accepted, and has no bit that encoding the operation would clear. -/
theorem canonicalWordsReencode : Obligations.CanonicalWordsReencode := by
  intro w hw
  rw [OpWord.canonical, Bool.and_eq_true] at hw
  obtain ⟨hword, hunused⟩ := hw
  obtain ⟨i, hi⟩ := (decode_instr_iff w).mpr hword
  exact ⟨i, hi, (encode_of_decode hi).trans (of_decide_eq_true hunused)⟩

/-- Settles O7: both words decode as their common masked word does. -/
theorem unusedFieldsAreIgnored : Obligations.UnusedFieldsAreIgnored := by
  intro w v h
  have hop : (w >>> 60).toNat = (v >>> 60).toNat := by
    have hfield := congrArg opField h
    rw [opField_and_usedBits, opField_and_usedBits] at hfield
    rw [shiftRight_toNat_eq, shiftRight_toNat_eq, hfield]
  rw [← decode_and_usedBits w, h, hop, decode_and_usedBits]

/-- Settles O8: under the mask, a word's match is its `op` and `rsv` fields, by which the decoder selects. -/
theorem opcodeRowsSelect : Obligations.OpcodeRowsSelect := by
  refine ⟨fun w i h => (and_selectMask_eq_iff w i.opcode).mpr (opField_of_decode h), fun w i h => ?_⟩
  obtain ⟨hop, hrsv⟩ := (and_selectMask_eq_iff w i.opcode).mp h
  have hcode : ∀ op ∈ opcodes, op.toNat < 0xB ∨ op.toNat = 0xF := by decide
  obtain ⟨j, hj⟩ := (decode_instr_iff w).mpr ((wellFormed_iff w).mpr ⟨hop ▸ hcode _ i.opcode_mem, hrsv⟩)
  exact ⟨j, hj, (opField_of_decode hj).1.symm.trans hop⟩

/-- Settles O9: the refused words are those that are not well formed. -/
theorem reservedWordsAreRefused : Obligations.ReservedWordsAreRefused := by
  intro w
  have := (opField w).isLt
  rw [decode_reserved_iff, wellFormed_iff, shiftRight_toNat_eq, ← rsvField]
  by_cases hrsv : rsvField w = 0#2
  · simp only [hrsv, and_true, ne_eq, not_true_eq_false, or_false]
    omega
  · simp [hrsv]

/-- Settles O10: the decoder is run on the seven words. -/
theorem wordsFromTheSpecDecode : Obligations.WordsFromTheSpecDecode := by
  unfold Obligations.WordsFromTheSpecDecode
  decide

end Sys2Proof
end

section
/-! What one input does, and what one cycle presents (R10, R51, R83, R144, R160, R171, R190). -/

namespace Sys2Proof.Machine

/-! ### One input, one step -/

/-- Every operation answers a next state (R160). -/
theorem exec_next (op : Instr) (s : State) : ∃ u, exec op s = .next u := by
  rcases instr_cases_slot op with ⟨i, hi⟩ | rfl | rfl | ⟨sig, pwr, typ, rfl⟩
  · exact ⟨_, exec_named hi s⟩
  · exact ⟨_, exec_nop s⟩
  · exact ⟨_, exec_reset s⟩
  · cases hf : s.slots.firstFree with
    | none => exact ⟨_, exec_attach_full hf sig pwr typ⟩
    | some i => exact ⟨_, exec_attach_free hf sig pwr typ⟩

/-- Every input answers a next state (R160). -/
theorem perform_next (x : Input) (s : State) : ∃ u, perform x s = .next u := by
  rcases perform_cases x s with ⟨op, h⟩ | h | h
  · rw [h]
    exact exec_next op s
  · exact ⟨_, h⟩
  · exact ⟨_, h⟩

theorem step_of_inputs_nil {s : State} (h : s.inputs = []) : step s = .next s := by
  simp [step, h]

/-- A step takes the first input (R10). -/
theorem step_of_inputs_cons {s : State} {x : Input} {rest : List Input} (h : s.inputs = x :: rest) :
    step s = perform x { s with inputs := rest } := by
  simp [step, h]

theorem performWord_instr {w : OpWord} {i : Instr} (h : decode w = .instr i) (s : State) :
    perform (.word w) s = exec i s := by
  simp [perform, performWord, h]

theorem performWord_reserved {w : OpWord} {why : ReservedWord} (h : decode w = .reserved why) (s : State) :
    perform (.word w) s = .next (s.answer reservedResponse []) := by
  simp [perform, performWord, h]

/-! ### One cycle -/

theorem mem_slotIndices (i : SlotIndex) : i ∈ slotIndices := by
  rcases slotIndex_cases i with rfl | rfl | rfl | rfl <;> decide

theorem slotIndices_pairwise_lt : slotIndices.Pairwise (· < ·) := by decide

theorem Cycle.inputs_of_rst {c : Cycle} (h : c.rst = true) : c.inputs = [.rst] := if_pos h

/-- The edges a cycle reports, in slot order. -/
def Cycle.edges (c : Cycle) : List Input :=
  (slotIndices.filter fun i => c.irq.getLsbD i.val).map fun i => Input.irq i c.pins c.now

/-- The reader-side word a cycle presents, if it is valid. -/
def Cycle.words (c : Cycle) : List Input := if c.opValid then [Input.word c.opWord] else []

theorem Cycle.inputs_of_not_rst {c : Cycle} (h : c.rst = false) : c.inputs = c.edges ++ c.words :=
  if_neg (by simp [h])

theorem Cycle.mem_edges {c : Cycle} {x : Input} :
    x ∈ c.edges ↔ ∃ i : SlotIndex, c.irq.getLsbD i.val = true ∧ x = .irq i c.pins c.now := by
  simp only [Cycle.edges, List.mem_map, List.mem_filter, mem_slotIndices, true_and, eq_comm (b := x)]

theorem Cycle.mem_words {c : Cycle} {x : Input} : x ∈ c.words ↔ c.opValid = true ∧ x = .word c.opWord := by
  unfold Cycle.words
  split <;> simp [*]

/-- The edges of a cycle come in strictly ascending slot order, so each once (R171). -/
theorem Cycle.edges_ascend (c : Cycle) :
    c.edges.Pairwise fun x y => ∃ i j : SlotIndex, i < j ∧ x = .irq i c.pins c.now ∧ y = .irq j c.pins c.now :=
  List.pairwise_map.mpr ((slotIndices_pairwise_lt.filter _).imp fun hlt => ⟨_, _, hlt, rfl, rfl⟩)

theorem Cycle.words_pairwise (c : Cycle) (r : Input → Input → Prop) : c.words.Pairwise r := by
  unfold Cycle.words
  split <;> simp

/-! ### The statements -/

/-- Settles O4: the input is `rst`, and the step takes it. -/
theorem rstInputEmptiesEverySlot : Obligations.RstInputEmptiesEverySlot :=
  fun s rest h => ⟨State.rstInput { s with inputs := rest }, step_of_inputs_cons h, SlotArray.get_reset, rfl, rfl, rfl⟩

/-- Settles O11: the step performs the word, and performing it is executing what it decodes to. -/
theorem stepRunsDecodedOperation : Obligations.StepRunsDecodedOperation :=
  fun _ _ _ _ hin hdec => (step_of_inputs_cons hin).trans (performWord_instr hdec _)

/-- Settles O12: the step performs the word, and a refused word is only answered. -/
theorem stepAnswersReservedWord : Obligations.StepAnswersReservedWord :=
  fun _ _ _ _ hin hdec => (step_of_inputs_cons hin).trans (performWord_reserved hdec _)

/-- Settles O13: the step performs the edge, which `routeEdge` makes an operation by the level of the slot's own pin. -/
theorem irqIsOneRoutedEdge : Obligations.IrqIsOneRoutedEdge :=
  fun _ _ _ _ _ hin => step_of_inputs_cons hin

/-- Settles O14. -/
theorem noOperationNoChange : Obligations.NoOperationNoChange := fun _ h => step_of_inputs_nil h

/-- Settles O15: with no input the state answers itself, and every input answers a next state. -/
theorem everyStepAnswersNext : Obligations.EveryStepAnswersNext := by
  intro s
  rcases step_cases s with ⟨-, h⟩ | ⟨x, rest, -, h⟩
  · exact ⟨s, h⟩
  · rw [h]
    exact perform_next x _

/-- Settles O16: the edges ascend, the word is alone, and every edge stands before it. -/
theorem cycleOrdersItsInputs : Obligations.CycleOrdersItsInputs := by
  intro c
  refine ⟨Cycle.inputs_of_rst, fun hrst => ?_⟩
  rw [Cycle.inputs_of_not_rst hrst]
  refine ⟨fun x => by rw [List.mem_append, Cycle.mem_edges, Cycle.mem_words], List.pairwise_append.mpr ⟨?_, ?_, ?_⟩⟩
  · exact c.edges_ascend.imp .inl
  · exact c.words_pairwise _
  · intro x hx y hy
    obtain ⟨i, -, rfl⟩ := Cycle.mem_edges.mp hx
    obtain ⟨-, rfl⟩ := Cycle.mem_words.mp hy
    exact .inr ⟨i, rfl, rfl⟩

end Sys2Proof.Machine
end

section
/-! The reader and registry operations on an occupied and on an empty slot: the answer, the requests and the slots after
(41_reader_ops.md, 42_registry_ops.md), and the block's view after reset (R44, R191). -/

namespace Sys2Proof.Machine

/-! ### Slots that become something -/

theorem SlotBecomes.slotsKept {s u : State} {i : SlotIndex} (h : SlotBecomes s u i (s.slot i)) : SlotsKept s u := by
  obtain ⟨hi, hne, hinputs⟩ := h
  refine ⟨fun j => ?_, hinputs⟩
  by_cases hj : j = i
  · rw [hj, hi]
  · exact hne j hj

theorem State.setSlot_answer_becomes (s : State) (i : SlotIndex) (c : Slot) (r : RespWord) (q : List Request) :
    SlotBecomes s ((s.setSlot i c).answer r q) i c :=
  ⟨State.slot_setSlot_same s i c, fun _ hj => State.slot_setSlot_ne s c hj, rfl⟩

/-- On an empty slot an operation that names it answers 0 and does nothing more (R90, R120, R142). -/
theorem exec_named_empty {op : Instr} {i : SlotIndex} {s : State} (hi : op.slot? = some i)
    (hempty : (s.slot i).occupied = false) : exec op s = .next (s.answer 0 []) := by
  rw [exec_named hi, State.onOccupied_empty hempty]

/-- An operation that leaves an occupied slot as it is keeps every slot. -/
theorem exec_named_keeps {op : Instr} {i : SlotIndex} {s : State} (hi : op.slot? = some i)
    (hocc : (s.slot i).occupied = true) (hkeep : slotEffect op (s.slot i) = s.slot i) :
    ∃ u, exec op s = .next u ∧ SlotsKept s u ∧ u.resp = slotResponse op (s.slot i)
      ∧ u.requests = slotRequests op (s.slot i) := by
  obtain ⟨u, hu, hresp, hreqs, hbecomes⟩ := exec_named_answers hi hocc
  rw [hkeep] at hbecomes
  exact ⟨u, hu, hbecomes.slotsKept, hresp, hreqs⟩

/-! ### The response words -/

theorem flagsResponse_shiftRight (c : Slot) : flagsResponse c >>> 4 = 0 := by
  apply BitVec.eq_of_getLsbD_eq
  intro k _
  rw [BitVec.getLsbD_ushiftRight, flagsResponse_getLsbD]
  simp [show 4 + k ≠ 1 ∧ 4 + k ≠ 2 ∧ 4 + k ≠ 3 by omega]

theorem cfgResponse_signalPin (i : SlotIndex) (c : Slot) : (cfgResponse i c).extractLsb' 0 8 = c.signalPin := by
  apply BitVec.eq_of_getLsbD_eq
  intro k hk
  simp [cfgResponse_getLsbD, hk]

theorem cfgResponse_powerPin (i : SlotIndex) (c : Slot) : (cfgResponse i c).extractLsb' 8 8 = c.powerPin := by
  apply BitVec.eq_of_getLsbD_eq
  intro k hk
  simp [cfgResponse_getLsbD, hk, show ¬ 8 + k < 8 ∧ 8 + k < 16 by omega]

theorem cfgResponse_sensorType (i : SlotIndex) (c : Slot) : (cfgResponse i c).extractLsb' 16 8 = c.sensorType := by
  apply BitVec.eq_of_getLsbD_eq
  intro k hk
  simp [cfgResponse_getLsbD, hk, show ¬ 16 + k < 8 ∧ ¬ 16 + k < 16 ∧ 16 + k < 24 by omega]

theorem cfgResponse_slotIndex (i : SlotIndex) (c : Slot) :
    (cfgResponse i c).extractLsb' 24 2 = slotIndexBits i := by
  apply BitVec.eq_of_getLsbD_eq
  intro k hk
  simp [cfgResponse_getLsbD, hk, show ¬ 24 + k < 8 ∧ ¬ 24 + k < 16 ∧ ¬ 24 + k < 24 ∧ 24 + k < 26 by omega]

theorem cfgResponse_shiftRight (i : SlotIndex) (c : Slot) : cfgResponse i c >>> 26 = 0 := by
  apply BitVec.eq_of_getLsbD_eq
  intro k _
  rw [BitVec.getLsbD_ushiftRight, cfgResponse_getLsbD]
  simp [show ¬ 26 + k < 8 ∧ ¬ 26 + k < 16 ∧ ¬ 26 + k < 24 ∧ ¬ 26 + k < 26 by omega]

theorem attachResponse_toNat (i : SlotIndex) : (attachResponse i).toNat = i.val := by
  rcases slotIndex_cases i with rfl | rfl | rfl | rfl <;> rfl

theorem failureResponse_slotExhausted : failureResponse .slotExhausted = 0x80000001#32 := by decide

/-! ### The power pin -/

theorem externallyPowered_iff (c : Slot) : c.externallyPowered = true ↔ c.powerPin = Config.pinNone :=
  decide_eq_true_iff

theorem powerRequest_external {c : Slot} (h : c.powerPin = Config.pinNone) (level : Bool) :
    powerRequest level c = [] :=
  if_pos ((externallyPowered_iff c).mpr h)

theorem powerRequest_switched {c : Slot} (h : c.powerPin ≠ Config.pinNone) (level : Bool) :
    powerRequest level c = [.setOutput c.powerPin level] :=
  if_neg (mt (externallyPowered_iff c).mp h)

theorem Slot.powerOff_external {c : Slot} (h : c.powerPin = Config.pinNone) : c.powerOff = c :=
  if_pos ((externallyPowered_iff c).mpr h)

theorem Slot.powerOff_switched {c : Slot} (h : c.powerPin ≠ Config.pinNone) : c.powerOff = c.uninitialize :=
  if_neg (mt (externallyPowered_iff c).mp h)

/-! ### The statements about the reader operations -/

/-- Settles O33: each such operation goes through `onOccupied`, which does nothing on an empty slot. -/
theorem emptySlotIgnoresOperations : Obligations.EmptySlotIgnoresOperations :=
  fun _ _ _ hi hempty => exec_named_empty hi hempty

/-- Settles O34: the four flags are the low bits of the response. -/
theorem readFlagsAnswersTheFlags : Obligations.ReadFlagsAnswersTheFlags := by
  intro s i hocc
  obtain ⟨u, hu, hkept, hresp, hreqs⟩ := exec_named_keeps (op := .rdFlags i) rfl hocc rfl
  refine ⟨u, hu, hkept, hreqs, ?_, ?_, ?_, ?_, ?_⟩ <;> rw [hresp] <;> dsimp only [slotResponse]
  · exact flagsResponse_getLsbD _ 0
  · exact flagsResponse_getLsbD _ 1
  · exact flagsResponse_getLsbD _ 2
  · exact flagsResponse_getLsbD _ 3
  · exact flagsResponse_shiftRight _

/-- Settles O35: the response is the reading, zero-extended. -/
theorem readRawAnswersTheReading : Obligations.ReadRawAnswersTheReading := by
  intro s i hocc
  obtain ⟨u, hu, hkept, hresp, hreqs⟩ := exec_named_keeps (op := .rdRaw i) rfl hocc rfl
  exact ⟨u, hu, hkept, hreqs, hresp ▸ rawResponse_toNat _⟩

/-- Settles O37: the configuration stands in the fields of the response. -/
theorem readConfigurationAnswersThePins : Obligations.ReadConfigurationAnswersThePins := by
  intro s i hocc
  obtain ⟨u, hu, hkept, hresp, hreqs⟩ := exec_named_keeps (op := .rdCfg i) rfl hocc rfl
  refine ⟨u, hu, hkept, hreqs, ?_, ?_, ?_, ?_, ?_⟩ <;> rw [hresp] <;> dsimp only [slotResponse]
  · exact cfgResponse_signalPin i _
  · exact cfgResponse_powerPin i _
  · exact cfgResponse_sensorType i _
  · exact congrArg BitVec.toNat (cfgResponse_slotIndex i _)
  · exact cfgResponse_shiftRight i _

/-- Settles O38: PWR_ON changes nothing of the slot, and its request depends on the power pin. -/
theorem powerOnRequestsTheLevel : Obligations.PowerOnRequestsTheLevel := by
  intro s i hocc
  obtain ⟨u, hu, hkept, hresp, hreqs⟩ := exec_named_keeps (op := .pwrOn i) rfl hocc rfl
  refine ⟨u, hu, hkept, hresp, hreqs.trans ?_⟩
  split
  case isTrue hext => exact powerRequest_external hext _
  case isFalse hswitched => exact powerRequest_switched hswitched _

/-- Settles O39: PWR_OFF by its two cases, with and without a power pin. -/
theorem powerOffForgetsInitialized : Obligations.PowerOffForgetsInitialized := by
  intro s i hocc
  obtain ⟨u, hu, hresp, hreqs, hbecomes⟩ := exec_named_answers (op := .pwrOff i) rfl hocc
  dsimp only [slotEffect, slotRequests] at hreqs hbecomes
  refine ⟨u, hu, hresp, fun hext => ?_, fun hswitched => ?_⟩
  · rw [powerRequest_external hext] at hreqs
    rw [Slot.powerOff_external hext] at hbecomes
    exact ⟨hreqs, hbecomes.slotsKept⟩
  · rw [powerRequest_switched hswitched] at hreqs
    rw [Slot.powerOff_switched hswitched] at hbecomes
    exact ⟨hreqs, hbecomes⟩

/-! ### The statements about the registry operations -/

/-- Settles O41: the free slot below which all are occupied is the one the search finds. -/
theorem attachTakesTheLowestFreeSlot : Obligations.AttachTakesTheLowestFreeSlot :=
  fun s sig pwr typ i hfree hlow =>
    ⟨_, exec_attach_free (SlotArray.firstFree_eq hfree hlow) sig pwr typ, attachResponse_toNat i, rfl,
      State.setSlot_answer_becomes s i (Slot.attached sig pwr typ) _ _⟩

/-- Settles O42: with every slot occupied the search finds none. -/
theorem attachFailsWhenFull : Obligations.AttachFailsWhenFull := by
  intro s sig pwr typ hfull
  rw [exec_attach_full (SlotArray.firstFree_none.mpr hfull), failureResponse_slotExhausted]
  rfl

/-- Settles O43: the effect of DETACH on an occupied slot is `Slot.reset`. -/
theorem detachReleasesTheSlot : Obligations.DetachReleasesTheSlot :=
  fun _ i hocc => exec_named_answers (op := .detach i) rfl hocc

/-- Settles O44. -/
theorem nopAnswersZero : Obligations.NopAnswersZero := exec_nop

/-- Settles O3: the cancellations run over the slots in ascending order. -/
theorem resetOperationEmptiesEverySlot : Obligations.ResetOperationEmptiesEverySlot :=
  fun s => ⟨_, exec_reset s, SlotArray.get_reset, rfl, rfl, rfl⟩

/-! ### The statements about the block after reset -/

/-- Settles O1: every slot of the array is `Slot.reset`. -/
theorem resetLoadsEverySlot : Obligations.ResetLoadsEverySlot := ⟨SlotArray.get_reset, rfl, rfl⟩

/-- After reset an operation that names a slot finds it empty. -/
theorem exec_named_reset {op : Instr} {i : SlotIndex} (hi : op.slot? = some i) :
    ∃ u, exec op State.reset = .next u ∧ u.resp = 0 ∧ SlotsKept State.reset u :=
  ⟨_, exec_named_empty hi (congrArg Slot.occupied (SlotArray.get_reset i)), rfl, fun _ => rfl, rfl⟩

/-- Settles O2: every slot is empty, and five ATTACH operations find the slots 0, 1, 2, 3 free and then none. -/
theorem programViewAfterReset : Obligations.ProgramViewAfterReset := by
  refine ⟨fun i op hop => exec_named_reset (readerOps_slot? hop), fun i t lvl => ?_, fun a b c d e => ?_⟩
  · obtain ⟨u, hu, -, hkept⟩ := exec_named_reset (edgeInstr_slot? i lvl t)
    exact ⟨u, hu, hkept⟩
  · exact ⟨_, _, _, _, _, rfl, rfl, rfl, rfl, rfl, rfl, rfl, rfl, rfl, rfl, rfl⟩

end Sys2Proof.Machine
end

section
/-! One edge operation whole: the three cases of FALL, the cases of RISE, and the numbers they measure
(40_edge_ops.md sections 1 to 3, 6, 7). -/

namespace Sys2Proof.Machine

/-! ### The falling edge -/

section
variable {longGap calOffset t : Timestamp} {c : Slot}

/-- R92: after a gap the frame restarts. -/
theorem Slot.fall_of_gap (hgap : longGap < t - c.lastEdgeTimestamp) :
    c.fall longGap calOffset t =
      { c with edgeInterval := t - c.lastEdgeTimestamp, bitPosition := 0, lastEdgeTimestamp := t } := by
  rcases Slot.fall_cases longGap calOffset t c with ⟨-, h⟩ | ⟨hshort, -⟩ | ⟨hshort, -⟩
  · exact h
  · exact absurd hgap hshort
  · exact absurd hgap hshort

/-- R94: the end of a short slot 0 calibrates. -/
theorem Slot.fall_of_position_zero (hshort : ¬ longGap < t - c.lastEdgeTimestamp) (hpos : c.bitPosition = 0) :
    c.fall longGap calOffset t =
      { c with
        edgeInterval := t - c.lastEdgeTimestamp
        strobeThreshold := ((t - c.lastEdgeTimestamp) >>> 1) - calOffset
        bitAccumulator := 0
        parityCount := 0
        bitPosition := 1
        lastEdgeTimestamp := t } := by
  rcases Slot.fall_cases longGap calOffset t c with ⟨hgap, -⟩ | ⟨-, -, h⟩ | ⟨-, hne, -⟩
  · exact absurd hgap hshort
  · exact h
  · exact absurd hpos hne

/-- R93: at any other position a short slot advances the position. -/
theorem Slot.fall_of_position_ne_zero (hshort : ¬ longGap < t - c.lastEdgeTimestamp) (hpos : c.bitPosition ≠ 0) :
    c.fall longGap calOffset t =
      { c with
        edgeInterval := t - c.lastEdgeTimestamp
        bitPosition := min (c.bitPosition + 1) 20
        lastEdgeTimestamp := t } := by
  rcases Slot.fall_cases longGap calOffset t c with ⟨hgap, -⟩ | ⟨-, heq, -⟩ | ⟨-, -, h⟩
  · exact absurd hgap hshort
  · exact absurd heq hpos
  · exact h

end

/-- A falling edge writes the decoder's fields and no other. -/
theorem Slot.fall_sameButDecoder (longGap calOffset t : Timestamp) (c : Slot) :
    SameButDecoder c (c.fall longGap calOffset t) := by
  rw [sameButDecoder_iff]
  rcases Slot.fall_cases longGap calOffset t c with ⟨-, h⟩ | ⟨-, -, h⟩ | ⟨-, -, h⟩ <;> simp [h]

/-! ### The rising edge -/

/-- R91 and R97: the sample at `t`, with the interval measured before it. -/
def Slot.sampledAt (c : Slot) (t : Timestamp) : Slot :=
  { c with
    edgeInterval := t - c.lastEdgeTimestamp
    bitAccumulator := accumulatorAt c t
    parityCount := countAt c t }

theorem accumulatorAt_eq_shiftIn (c : Slot) (t : Timestamp) :
    accumulatorAt c t = shiftIn c.bitAccumulator (bitAt c t) := by
  unfold accumulatorAt
  cases bitAt c t <;> rfl

theorem countAt_eq_countOne (c : Slot) (t : Timestamp) : countAt c t = countOne c.parityCount (bitAt c t) := by
  unfold countAt
  cases bitAt c t <;> simp

/-- The sample of R97 in terms of the bit, the accumulator and the count at `t`. -/
theorem Slot.measure_sample (t : Timestamp) (c : Slot) : (c.measure t).sample = c.sampledAt t := by
  rw [Slot.sampledAt, accumulatorAt_eq_shiftIn, countAt_eq_countOne]
  rfl

section
variable {t : Timestamp} {c : Slot}

/-- R102: at a sampling position other than 19 a rising edge samples. -/
theorem Slot.rise_of_sampling (hpos : 1 ≤ c.bitPosition) (hlast : c.bitPosition ≠ 19) : c.rise t = c.sampledAt t := by
  rcases Slot.rise_cases t c with ⟨hle, -⟩ | ⟨heq, -⟩ | ⟨-, -, h⟩
  · omega
  · exact absurd heq hlast
  · rw [h, Slot.measure_sample]

/-- R98 to R101: at position 19 a rising edge samples and completes the frame. -/
theorem Slot.rise_of_last (hlast : c.bitPosition = 19) : c.rise t = (c.sampledAt t).complete := by
  rcases Slot.rise_cases t c with ⟨hle, -⟩ | ⟨-, h⟩ | ⟨-, hne, -⟩
  · omega
  · rw [h, Slot.measure_sample]
  · exact absurd hlast hne

variable (hlast : c.bitPosition = 19)
include hlast

/-- R98: a parity-valid frame with a new value, or on an un-initialised channel, is published. -/
theorem Slot.rise_publishes (heven : (countAt c t).getLsbD 0 = false)
    (hnew : (accumulatorAt c t).extractLsb' 2 16 ≠ c.rawValue ∨ c.initialized = false) :
    c.rise t =
      { c.sampledAt t with
        rawValue := (accumulatorAt c t).extractLsb' 2 16
        initialized := true
        valueAvailable := true
        bitPosition := -1 } := by
  rw [Slot.rise_of_last hlast]
  rcases Slot.complete_cases (c.sampledAt t) with ⟨-, -, h⟩ | ⟨-, hsame, hinit, -⟩ | ⟨hodd, -⟩
  · exact h
  · rcases hnew with hne | hfalse
    · exact absurd hsame hne
    · exact absurd (hinit.symm.trans hfalse) (by decide)
  · exact absurd (hodd.symm.trans heven) (by decide)

/-- R99: a parity-valid frame that repeats the value on an initialised channel publishes nothing. -/
theorem Slot.rise_repeats (heven : (countAt c t).getLsbD 0 = false)
    (hsame : (accumulatorAt c t).extractLsb' 2 16 = c.rawValue) (hinit : c.initialized = true) :
    c.rise t = { c.sampledAt t with bitPosition := -1 } := by
  rw [Slot.rise_of_last hlast]
  rcases Slot.complete_cases (c.sampledAt t) with ⟨-, hne | hfalse, -⟩ | ⟨-, -, -, h⟩ | ⟨hodd, -⟩
  · exact absurd hsame hne
  · exact absurd (hinit.symm.trans hfalse) (by decide)
  · exact h
  · exact absurd (hodd.symm.trans heven) (by decide)

/-- R100: a frame with odd parity sets `parityError`. -/
theorem Slot.rise_failsParity (hodd : (countAt c t).getLsbD 0 = true) :
    c.rise t = { c.sampledAt t with parityError := true, bitPosition := -1 } := by
  rw [Slot.rise_of_last hlast]
  rcases Slot.complete_cases (c.sampledAt t) with ⟨heven, -⟩ | ⟨heven, -⟩ | ⟨-, h⟩
  · exact absurd (hodd.symm.trans heven) (by decide)
  · exact absurd (hodd.symm.trans heven) (by decide)
  · exact h

end

/-- On an occupied slot, RISE is the decoder's rising edge. -/
theorem exec_rise_becomes {s : State} {i : SlotIndex} {t : Timestamp} {c : Slot} (hocc : (s.slot i).occupied = true)
    (hc : (s.slot i).rise t = c) : ∃ u, exec (.rise i t) s = .next u ∧ SlotBecomes s u i c :=
  hc ▸ exec_named_becomes (op := .rise i t) rfl hocc

/-! ### The statements -/

/-- Settles O18: the interval is the difference of the two timestamps modulo `2^32`, so the recorded time cancels. -/
theorem elapsedTimeIsMeasured : Obligations.ElapsedTimeIsMeasured := by
  intro s i last elapsed lvl hocc hlast
  obtain ⟨u, hu, hinterval⟩ := edgesMeasureTheInterval s i (BitVec.ofNat 32 (last + elapsed)) lvl hocc
  have hnat : (u.slot i).edgeInterval.toNat = elapsed % 2 ^ 32 := by
    rw [hinterval, hlast, BitVec.ofNat_add, BitVec.add_comm, BitVec.add_sub_cancel, BitVec.toNat_ofNat]
  exact ⟨u, hu, hnat, fun hlt => hnat.trans (Nat.mod_eq_of_lt hlt)⟩

/-- Settles O19: the first of the three cases. -/
theorem fallGapRestartsFrame : Obligations.FallGapRestartsFrame := fun _ _ _ _ hgap => Slot.fall_of_gap hgap

/-- Settles O20: the chain of conditions picks the case that `Slot.fall` takes. -/
theorem fallTakesOneOfThreeCases : Obligations.FallTakesOneOfThreeCases := by
  intro s i t hocc
  obtain ⟨u, hu, hresp, hreqs, hbecomes⟩ := exec_named_answers (op := .fall i t) rfl hocc
  refine ⟨u, hu, hresp, hreqs, ?_⟩
  dsimp only [slotEffect] at hbecomes
  split
  case isTrue hgap => exact Slot.fall_of_gap hgap ▸ hbecomes
  case isFalse hshort =>
    split
    case isTrue hpos => exact Slot.fall_of_position_zero hshort hpos ▸ hbecomes
    case isFalse hpos => exact Slot.fall_of_position_ne_zero hshort hpos ▸ hbecomes

/-- Settles O21: the calibration subtracts 32-bit words, and the shortfall wraps. -/
theorem calibrationThresholdValue : Obligations.CalibrationThresholdValue := by
  intro longGap calOffset t c hpos hshort
  rw [Slot.fall_of_position_zero (BitVec.not_lt.mpr hshort) hpos]
  have hhalf : ((t - c.lastEdgeTimestamp) >>> 1).toNat = (t - c.lastEdgeTimestamp).toNat / 2 := by
    rw [BitVec.toNat_ushiftRight, Nat.shiftRight_eq_div_pow, pow_one]
  have hinterval := (t - c.lastEdgeTimestamp).isLt
  have hoffset := calOffset.isLt
  rw [BitVec.toNat_sub, hhalf]
  split <;> omega

/-- Settles O24: RISE is the rising edge of the decoder, which samples there. -/
theorem riseSamplesOneBit : Obligations.RiseSamplesOneBit :=
  fun _ _ _ hocc hpos hlast => exec_rise_becomes hocc (Slot.rise_of_sampling hpos hlast)

/-- Settles O25: RISE is the rising edge of the decoder, which publishes there. -/
theorem risePublishesNewReading : Obligations.RisePublishesNewReading :=
  fun _ _ _ hocc hlast heven hnew => exec_rise_becomes hocc (Slot.rise_publishes hlast heven hnew)

/-- Settles O26: RISE is the rising edge of the decoder, which keeps the published fields there. -/
theorem riseKeepsRepeatedReading : Obligations.RiseKeepsRepeatedReading :=
  fun _ _ _ hocc hlast heven hsame hinit => exec_rise_becomes hocc (Slot.rise_repeats hlast heven hsame hinit)

/-- Settles O27: RISE is the rising edge of the decoder, which flags the error there. -/
theorem riseFlagsParityError : Obligations.RiseFlagsParityError :=
  fun _ _ _ hocc hlast hodd => exec_rise_becomes hocc (Slot.rise_failsParity hlast hodd)

/-- Settles O28: an edge operation goes through `onOccupied` with the answer 0 and no request. -/
theorem edgesAnswerZero : Obligations.EdgesAnswerZero := by
  intro s i t lvl
  have hresp (c : Slot) : slotResponse (edgeInstr i lvl t) c = 0 := by cases lvl <;> rfl
  have hreqs (c : Slot) : slotRequests (edgeInstr i lvl t) c = [] := by cases lvl <;> rfl
  refine ⟨_, exec_named (edgeInstr_slot? i lvl t) s, ?_, ?_, State.onOccupied_inputs s i _ _ _, fun j hj => ?_⟩
  · rw [State.onOccupied_resp, hresp, ite_self]
  · rw [State.onOccupied_requests, hreqs, ite_self]
  · exact State.onOccupied_slot_ne s _ _ _ hj

end Sys2Proof.Machine
end

section
/-! Sequences of edges on one slot: they run on that slot alone (R144), they see only differences of timestamps (R104),
and the first falling edge of a fresh channel starts slot 0 (R193). -/

namespace Sys2Proof.Machine

/-! ### Edges keep the configuration -/

theorem Slot.rise_cfg (t : Timestamp) (c : Slot) :
    (c.rise t).occupied = c.occupied ∧ (c.rise t).signalPin = c.signalPin ∧ (c.rise t).powerPin = c.powerPin
      ∧ (c.rise t).sensorType = c.sensorType := by
  rcases Slot.rise_cases t c with ⟨-, h⟩ | ⟨-, h⟩ | ⟨-, -, h⟩
  · simp [h]
  · rcases Slot.complete_cases (c.measure t).sample with ⟨-, -, hc⟩ | ⟨-, -, -, hc⟩ | ⟨-, hc⟩ <;> simp [h, hc]
  · simp [h]

/-- No edge writes the configuration or `occupied` (R37). -/
theorem Slot.edge_cfg (longGap calOffset : Timestamp) (lvl : Bool) (t : Timestamp) (c : Slot) :
    (c.edge longGap calOffset lvl t).occupied = c.occupied
    ∧ (c.edge longGap calOffset lvl t).signalPin = c.signalPin
    ∧ (c.edge longGap calOffset lvl t).powerPin = c.powerPin
    ∧ (c.edge longGap calOffset lvl t).sensorType = c.sensorType := by
  cases lvl with
  | false =>
    obtain ⟨hocc, hsig, hpwr, htyp, -⟩ := sameButDecoder_iff.mp (Slot.fall_sameButDecoder longGap calOffset t c)
    exact ⟨hocc, hsig, hpwr, htyp⟩
  | true => exact Slot.rise_cfg t c

/-! ### A sequence of edges of one slot -/

theorem SlotBecomes.refl (s : State) (i : SlotIndex) : SlotBecomes s s i (s.slot i) := ⟨rfl, fun _ _ => rfl, rfl⟩

theorem SlotBecomes.trans {s u v : State} {i : SlotIndex} {c d : Slot} (h : SlotBecomes s u i c)
    (h' : SlotBecomes u v i d) : SlotBecomes s v i d := by
  obtain ⟨-, hne, hinputs⟩ := h
  obtain ⟨hi, hne', hinputs'⟩ := h'
  exact ⟨hi, fun j hj => (hne' j hj).trans (hne j hj), hinputs'.trans hinputs⟩

/-- A sequence of operations is its first operation, then the rest. -/
theorem execAll_cons_of_exec {op : Instr} {ops : List Instr} {s u : State} (h : exec op s = .next u) :
    execAll (op :: ops) s = execAll ops u := by
  simp only [execAll, h]

/-- Settles O30: by induction on the edges; each keeps the slot occupied, so the next one acts too. -/
theorem edgeSequenceRunsOnItsSlot : Obligations.EdgeSequenceRunsOnItsSlot := by
  intro es
  induction es with
  | nil => exact fun s i _ => ⟨s, rfl, SlotBecomes.refl s i⟩
  | cons e es ih =>
    intro s i hocc
    obtain ⟨u, hu, hfirst⟩ := exec_named_becomes (edgeInstr_slot? i e.1 e.2) hocc
    rw [slotEffect_edgeInstr] at hfirst
    have hslot : u.slot i = (s.slot i).edge Config.longGapUs Config.calOffsetUs e.1 e.2 := hfirst.1
    have hoccU : (u.slot i).occupied = true := by rw [hslot, (Slot.edge_cfg _ _ e.1 e.2 _).1, hocc]
    obtain ⟨v, hv, hrest⟩ := ih u i hoccU
    refine ⟨v, (execAll_cons_of_exec hu).trans hv, hfirst.trans ?_⟩
    rw [Slot.edges_cons, ← hslot]
    exact hrest

/-! ### Shifted timestamps -/

/-- The slot with its recorded timestamp shifted. -/
def Slot.shifted (shift : Timestamp) (c : Slot) : Slot :=
  { c with lastEdgeTimestamp := c.lastEdgeTimestamp + shift }

/-- The interval is a difference, so it does not see the shift. -/
theorem Slot.measure_shifted (shift t : Timestamp) (c : Slot) :
    (c.shifted shift).measure (t + shift) = (c.measure t).shifted shift := by
  have hinterval : t + shift - (c.lastEdgeTimestamp + shift) = t - c.lastEdgeTimestamp := by
    simp [BitVec.sub_eq_add_neg]
  simp [Slot.measure, Slot.shifted, hinterval]

theorem Slot.advance_shifted (longGap calOffset shift : Timestamp) (c : Slot) :
    (c.shifted shift).advance longGap calOffset = (c.advance longGap calOffset).shifted shift := by
  unfold Slot.advance
  rw [apply_ite (Slot.shifted shift), apply_ite (Slot.shifted shift)]
  rfl

/-- The judgement of a frame reads no timestamp. -/
theorem Slot.judge_shifted (shift : Timestamp) (c : Slot) : (c.shifted shift).judge = c.judge.shifted shift := by
  unfold Slot.judge
  rw [apply_ite (Slot.shifted shift), apply_ite (Slot.shifted shift)]
  rfl

theorem Slot.complete_shifted (shift : Timestamp) (c : Slot) :
    (c.shifted shift).complete = c.complete.shifted shift := by
  unfold Slot.complete
  rw [Slot.judge_shifted]
  rfl

theorem Slot.fall_shifted (longGap calOffset shift t : Timestamp) (c : Slot) :
    (c.shifted shift).fall longGap calOffset (t + shift) = (c.fall longGap calOffset t).shifted shift := by
  unfold Slot.fall
  rw [Slot.measure_shifted, Slot.advance_shifted]
  rfl

theorem Slot.rise_shifted (shift t : Timestamp) (c : Slot) :
    (c.shifted shift).rise (t + shift) = (c.rise t).shifted shift := by
  have hsample (d : Slot) : (d.shifted shift).sample = d.sample.shifted shift := rfl
  unfold Slot.rise
  rw [Slot.measure_shifted, hsample, Slot.complete_shifted, apply_ite (Slot.shifted shift),
    apply_ite (Slot.shifted shift)]
  rfl

/-- An edge does not see a shift of all timestamps. -/
theorem Slot.edge_shifted (longGap calOffset shift t : Timestamp) (lvl : Bool) (c : Slot) :
    (c.shifted shift).edge longGap calOffset lvl (t + shift) = (c.edge longGap calOffset lvl t).shifted shift := by
  cases lvl with
  | false => exact Slot.fall_shifted longGap calOffset shift t c
  | true => exact Slot.rise_shifted shift t c

/-- Settles O29: by induction on the edges, each of which does not see the shift. -/
theorem timerWrapIsInvisible : Obligations.TimerWrapIsInvisible := by
  intro longGap calOffset shift es
  induction es with
  | nil => exact fun _ => rfl
  | cons e es ih =>
    intro c
    rw [List.map_cons, Slot.edges_cons, Slot.edges_cons, ← ih]
    exact congrArg _ (Slot.edge_shifted longGap calOffset shift e.2 e.1 c)

/-! ### The first falling edge -/

/-- From idle, rising edges leave the decoder idle (R96). -/
theorem Slot.edges_rises_idle (longGap calOffset : Timestamp) (rises : List Timestamp) {c : Slot}
    (hidle : c.bitPosition = -1) :
    (Slot.edges longGap calOffset (rises.map fun r => (true, r)) c).bitPosition = -1 := by
  induction rises generalizing c with
  | nil => exact hidle
  | cons r rises ih =>
    rw [List.map_cons, Slot.edges_cons, Slot.edge_rise]
    apply ih
    rw [Slot.rise_of_position_nonpos r (by omega)]
    exact hidle

/-- From idle, a falling edge starts slot 0, whatever its time: by the gap or by the advance from -1 (R92, R93). -/
theorem Slot.fall_of_idle (longGap calOffset t : Timestamp) {c : Slot} (hidle : c.bitPosition = -1) :
    c.fall longGap calOffset t =
      { c with edgeInterval := t - c.lastEdgeTimestamp, bitPosition := 0, lastEdgeTimestamp := t } := by
  by_cases hgap : longGap < t - c.lastEdgeTimestamp
  · exact Slot.fall_of_gap hgap
  · rw [Slot.fall_of_position_ne_zero hgap (by omega), hidle]
    rfl

/-- Settles O32: the rising edges keep the idle position of the fresh channel, from which the falling edge starts. -/
theorem firstFallAfterAttach : Obligations.FirstFallAfterAttach := by
  intro longGap calOffset t sig pwr typ rises
  have hidle := Slot.edges_rises_idle longGap calOffset rises (Slot.attached_bitPosition sig pwr typ)
  refine ⟨hidle, ?_⟩
  rw [Slot.edges_append, Slot.edges_cons, Slot.edges_nil, Slot.edge_fall, Slot.fall_of_idle _ _ _ hidle]

end Sys2Proof.Machine
end

section
/-! A whole frame of 20 bit slots: the slot after each bit slot, the bits that stand in the accumulator, the parity of
the samples, and the judgement at the end (30_encoding.md sections 2 and 3, R74 to R78). -/

namespace Sys2Proof.Machine

/-! ### The bits of a frame in the accumulator and in the count -/

/-- The accumulator after the samples of the bit slots 1 to `k`. -/
def frameAccumulator (bit : Nat → Bool) : Nat → Accumulator
  | 0 => 0
  | k + 1 => shiftIn (frameAccumulator bit k) (bit (k + 1))

/-- The parity count after the samples of the bit slots 1 to `k`. -/
def frameCount (bit : Nat → Bool) : Nat → ParityCount
  | 0 => 0
  | k + 1 => countOne (frameCount bit k) (bit (k + 1))

/-- The latest sample stands at bit 0, and each earlier one a place higher, up to the width (R108). -/
theorem frameAccumulator_getLsbD (bit : Nat → Bool) (k m : Nat) :
    (frameAccumulator bit k).getLsbD m = (decide (m < k ∧ m < 20) && bit (k - m)) := by
  induction k generalizing m with
  | zero => simp [frameAccumulator]
  | succ k ih =>
    rw [frameAccumulator, shiftIn_getLsbD]
    cases m with
    | zero => simp
    | succ m =>
      simp only [Nat.add_one_ne_zero, if_false, Nat.add_sub_cancel, ih, Nat.add_sub_add_right, ← Bool.and_assoc,
        ← Bool.decide_and]
      congr 2
      simp only [eq_iff_iff]
      omega

/-- The data bits of a whole frame are those of the bit slots 2 to 17, the first one highest (R77). -/
theorem dataBits_frameAccumulator (bit : Nat → Bool) (v : RawValue)
    (hv : ∀ k, k < 16 → v.getLsbD k = bit (17 - k)) : dataBits (frameAccumulator bit 19) = v := by
  apply BitVec.eq_of_getLsbD_eq
  intro k hk
  rw [dataBits_getLsbD, frameAccumulator_getLsbD, hv k hk, show 19 - (2 + k) = 17 - k by omega]
  simp [hk, show 2 + k < 19 ∧ 2 + k < 20 by omega]

/-- A counted 1 turns the parity, a 0 keeps it (R109). -/
theorem countOne_getLsbD_zero (n : ParityCount) (b : Bool) : (countOne n b).getLsbD 0 = (n.getLsbD 0 ^^ b) := by
  cases b with
  | false => simp
  | true =>
    simp only [countOne_true, BitVec.getLsbD, Nat.testBit_zero, BitVec.toNat_add]
    have := n.isLt
    by_cases hn : n.toNat % 2 = 1 <;> simp [hn] <;> omega

/-- The parity count is odd where the number of 1s sampled is. -/
theorem frameCount_getLsbD_zero (bit : Nat → Bool) (k : Nat) :
    (frameCount bit k).getLsbD 0 = decide (((List.range k).filter fun m => bit (m + 1)).length % 2 = 1) := by
  induction k with
  | zero => simp [frameCount]
  | succ k ih =>
    rw [frameCount, countOne_getLsbD_zero, ih, List.range_succ, List.filter_append, List.length_append]
    cases hbit : bit (k + 1) with
    | false => simp [hbit]
    | true =>
      simp only [Bool.xor_true, ← decide_not, decide_eq_decide, List.filter_singleton, hbit, cond_true,
        List.length_singleton]
      omega

/-! ### The slot in mid-frame -/

/-- The edges of the first `n` bit slots of a frame. -/
def bitSlotEdges (falls rises : Nat → Timestamp) (n : Nat) : List (Bool × Timestamp) :=
  (List.range n).flatMap fun k => [(false, falls k), (true, rises k)]

theorem frameEdges_eq (falls rises : Nat → Timestamp) : frameEdges falls rises = bitSlotEdges falls rises 20 := rfl

/-- One bit slot more is one falling and one rising edge more. -/
theorem edges_bitSlotEdges_succ (longGap calOffset : Timestamp) (falls rises : Nat → Timestamp) (n : Nat) (c : Slot) :
    Slot.edges longGap calOffset (bitSlotEdges falls rises (n + 1)) c =
      ((Slot.edges longGap calOffset (bitSlotEdges falls rises n) c).fall longGap calOffset (falls n)).rise
        (rises n) := by
  simp only [bitSlotEdges, List.range_succ, List.flatMap_append, Slot.edges_append]
  rfl

section
variable (longGap calOffset : Timestamp) (falls rises : Nat → Timestamp) (c : Slot) (bit : Nat → Bool)

/-- The threshold that bit slot 0 calibrates (R94). -/
def frameThreshold : Timestamp := ((falls 1 - falls 0) >>> 1) - calOffset

/-- The slot `c` after the falling edge of bit slot `k + 1`, the bit slots 1 to `k` being sampled. -/
def Slot.fallen (k : Nat) : Slot :=
  { c with
    bitPosition := (k : Int) + 1
    strobeThreshold := frameThreshold calOffset falls
    bitAccumulator := frameAccumulator bit k
    parityCount := frameCount bit k
    lastEdgeTimestamp := falls (k + 1)
    edgeInterval := falls (k + 1) - falls k }

/-- The slot `c` after bit slot `k + 1`, that one sampled too. -/
def Slot.risen (k : Nat) : Slot :=
  { c with
    bitPosition := (k : Int) + 1
    strobeThreshold := frameThreshold calOffset falls
    bitAccumulator := frameAccumulator bit (k + 1)
    parityCount := frameCount bit (k + 1)
    lastEdgeTimestamp := falls (k + 1)
    edgeInterval := rises (k + 1) - falls (k + 1) }

variable {longGap calOffset falls rises c bit}

/-- The first two falling edges of a frame, begun from idle or by a gap: slot 0 is started, its rising edge ignored, and
its end calibrates. -/
theorem Slot.fall_rise_fall_begin (hbegin : c.bitPosition = -1 ∨ longGap < falls 0 - c.lastEdgeTimestamp)
    (hshort : falls 1 - falls 0 ≤ longGap) :
    ((c.fall longGap calOffset (falls 0)).rise (rises 0)).fall longGap calOffset (falls 1) =
      c.fallen calOffset falls bit 0 := by
  have hstart : c.fall longGap calOffset (falls 0) =
      { c with edgeInterval := falls 0 - c.lastEdgeTimestamp, bitPosition := 0, lastEdgeTimestamp := falls 0 } :=
    hbegin.elim (Slot.fall_of_idle _ _ _) Slot.fall_of_gap
  rw [hstart, Slot.rise_of_position_nonpos (rises 0) (Int.le_refl 0),
    Slot.fall_of_position_zero (BitVec.not_lt.mpr hshort) rfl]
  rfl

/-- A short bit slot from 1 to 18 advances the position by one. -/
theorem Slot.risen_fall {k : Nat} (hk : k < 18) (hshort : falls (k + 2) - falls (k + 1) ≤ longGap) :
    (c.risen calOffset falls rises bit k).fall longGap calOffset (falls (k + 2)) =
      c.fallen calOffset falls bit (k + 1) := by
  have hpos : min ((k : Int) + 1 + 1) 20 = ((k + 1 : Nat) : Int) + 1 := by omega
  rw [Slot.fall_of_position_ne_zero (BitVec.not_lt.mpr hshort) (by simp only [Slot.risen]; omega)]
  simp only [Slot.risen, Slot.fallen, hpos]

variable (hbit : ∀ k, bit k = decide (rises k - falls k < frameThreshold calOffset falls))
include hbit

theorem Slot.fallen_sampledAt (k : Nat) :
    (c.fallen calOffset falls bit k).sampledAt (rises (k + 1)) = c.risen calOffset falls rises bit k := by
  have hsample : bitAt (c.fallen calOffset falls bit k) (rises (k + 1)) = bit (k + 1) := (hbit (k + 1)).symm
  rw [Slot.sampledAt, accumulatorAt_eq_shiftIn, countAt_eq_countOne, hsample]
  rfl

/-- A rising edge in a bit slot from 1 to 18 samples. -/
theorem Slot.fallen_rise {k : Nat} (hk : k < 18) :
    (c.fallen calOffset falls bit k).rise (rises (k + 1)) = c.risen calOffset falls rises bit k := by
  rw [Slot.rise_of_sampling, Slot.fallen_sampledAt hbit] <;> simp only [Slot.fallen] <;> omega

/-- A frame up to its rising edge in bit slot `k + 1`. -/
theorem edges_bitSlotEdges (hbegin : c.bitPosition = -1 ∨ longGap < falls 0 - c.lastEdgeTimestamp)
    (hshort : ∀ k, k < 19 → falls (k + 1) - falls k ≤ longGap) (k : Nat) (hk : k ≤ 18) :
    Slot.edges longGap calOffset (bitSlotEdges falls rises (k + 2)) c =
      (c.fallen calOffset falls bit k).rise (rises (k + 1)) := by
  induction k with
  | zero =>
    rw [edges_bitSlotEdges_succ, edges_bitSlotEdges_succ]
    exact congrArg (Slot.rise (rises 1)) (Slot.fall_rise_fall_begin hbegin (hshort 0 (by omega)))
  | succ k ih =>
    rw [edges_bitSlotEdges_succ, ih (by omega), Slot.fallen_rise hbit (by omega),
      Slot.risen_fall (by omega) (hshort (k + 1) (by omega))]

/-- A whole frame is its last rising edge, at position 19. -/
theorem edges_frameEdges (hbegin : c.bitPosition = -1 ∨ longGap < falls 0 - c.lastEdgeTimestamp)
    (hshort : ∀ k, k < 19 → falls (k + 1) - falls k ≤ longGap) :
    Slot.edges longGap calOffset (frameEdges falls rises) c = (c.fallen calOffset falls bit 18).rise (rises 19) :=
  frameEdges_eq falls rises ▸ edges_bitSlotEdges hbit hbegin hshort 18 (Nat.le_refl 18)

end

/-- Settles O31: the frame is its last rising edge at position 19, with the 19 samples in the accumulator and their
parity in the count; that edge publishes, keeps or flags the error. -/
theorem frameDecodes : Obligations.FrameDecodes := by
  intro longGap calOffset falls rises c u bit v hbegin hshort hbit hv hu
  rw [edges_frameEdges hbit hbegin hshort] at hu
  have hlast : (c.fallen calOffset falls bit 18).bitPosition = 19 := rfl
  have hsampled : (c.fallen calOffset falls bit 18).sampledAt (rises 19) = c.risen calOffset falls rises bit 18 :=
    Slot.fallen_sampledAt hbit 18
  have hdata : (accumulatorAt (c.fallen calOffset falls bit 18) (rises 19)).extractLsb' 2 16 = v :=
    (congrArg (fun d : Slot => dataBits d.bitAccumulator) hsampled).trans (dataBits_frameAccumulator bit v hv)
  have hparity : (countAt (c.fallen calOffset falls bit 18) (rises 19)).getLsbD 0 =
      decide (((List.range 19).filter fun k => bit (k + 1)).length % 2 = 1) :=
    (congrArg (fun d : Slot => d.parityCount.getLsbD 0) hsampled).trans (frameCount_getLsbD_zero bit 19)
  by_cases hodd : ((List.range 19).filter fun k => bit (k + 1)).length % 2 = 1
  · rw [Slot.rise_failsParity hlast (hparity.trans (decide_eq_true hodd))] at hu
    subst hu
    exact ⟨rfl, rfl, rfl, rfl, rfl, rfl, fun heven => by omega, fun _ => ⟨rfl, rfl, rfl, rfl⟩⟩
  · have heven := hparity.trans (decide_eq_false hodd)
    by_cases hnew : v ≠ c.rawValue ∨ c.initialized = false
    · rw [Slot.rise_publishes hlast heven (hdata ▸ hnew)] at hu
      subst hu
      refine ⟨rfl, rfl, rfl, rfl, rfl, rfl, fun _ => ⟨hdata, rfl, rfl, ?_⟩, fun h => absurd h hodd⟩
      rcases hnew with hne | hinit <;> simp [*]
    · obtain ⟨hsame, hinit⟩ : v = c.rawValue ∧ c.initialized = true := by simpa using hnew
      rw [Slot.rise_repeats hlast heven (hdata.trans hsame) hinit] at hu
      subst hu
      refine ⟨rfl, rfl, rfl, rfl, rfl, rfl, fun _ => ⟨hsame.symm, hinit, rfl, ?_⟩, fun h => absurd h hodd⟩
      simp [hsame, hinit, Slot.sampledAt, Slot.fallen]

end Sys2Proof.Machine
end

section
/-! What an operation can do to a slot, said once for the operations that load it and once for the others; from it the
rules of 10_state.md on who writes which field (R27 to R30, R37 to R39, R95, R174). -/

namespace Sys2Proof.Machine

/-! ### The slot after an operation -/

/-- A slot that an operation loads holds the reset values after it, or those of a fresh channel. -/
theorem exec_slot_loaded {op : Instr} {s u : State} {j : SlotIndex} (h : exec op s = .next u) (hl : Loads op s j) :
    u.slot j = Slot.reset ∨ ∃ sig pwr typ, op = .attach sig pwr typ ∧ s.slots.firstFree = some j
      ∧ u.slot j = Slot.attached sig pwr typ := by
  rcases hl with ⟨sig, pwr, typ, rfl, hfree, hlow⟩ | ⟨rfl, hocc⟩ | rfl
  · have hfound : s.slots.firstFree = some j := SlotArray.firstFree_eq hfree hlow
    rw [exec_attach_free hfound] at h
    cases h
    exact .inr ⟨sig, pwr, typ, rfl, hfound, State.slot_setSlot_same s j _⟩
  · rw [eq_of_exec_named rfl h, State.onOccupied_slot_same, if_pos hocc]
    exact .inl rfl
  · cases h
    exact .inl (SlotArray.get_reset j)

/-- What an operation that does not load a slot can make of it: nothing, or what the falling edge, the rising edge,
CLR_FLAGS or PWR_OFF on that very slot make of it where it is occupied. -/
theorem exec_slot_cases {op : Instr} {s u : State} {j : SlotIndex} (h : exec op s = .next u) (hl : ¬ Loads op s j) :
    u.slot j = s.slot j
    ∨ (∃ t, op = .fall j t ∧ u.slot j = (s.slot j).fall Config.longGapUs Config.calOffsetUs t)
    ∨ (∃ t, op = .rise j t ∧ (s.slot j).occupied = true ∧ u.slot j = (s.slot j).rise t)
    ∨ (op = .clrFlags j ∧ u.slot j = (s.slot j).clearFlags)
    ∨ (op = .pwrOff j ∧ (s.slot j).powerPin ≠ Config.pinNone ∧ u.slot j = (s.slot j).uninitialize) := by
  rcases exec_slot_not_loaded h hl with hkept | ⟨hj, hocc, heffect⟩
  · exact .inl hkept
  · cases op <;> simp only [Instr.slot?, Option.some.injEq, reduceCtorEq] at hj <;> subst hj
    case fall t => exact .inr (.inl ⟨t, rfl, heffect⟩)
    case rise t => exact .inr (.inr (.inl ⟨t, rfl, hocc, heffect⟩))
    case clrFlags => exact .inr (.inr (.inr (.inl ⟨rfl, heffect⟩)))
    case pwrOff j =>
      by_cases hext : (s.slot j).powerPin = Config.pinNone
      · exact .inl (heffect.trans (Slot.powerOff_external hext))
      · exact .inr (.inr (.inr (.inr ⟨rfl, hext, heffect.trans (Slot.powerOff_switched hext)⟩)))
    case detach j => exact absurd (loads_detach.mpr ⟨rfl, hocc⟩) hl
    all_goals exact .inl heffect

/-- What a rising edge can make of a slot: it measures, samples, publishes, repeats or fails parity (R96 to R102). -/
theorem Slot.rise_result (t : Timestamp) (c : Slot) :
    (c.bitPosition ≠ 19 ∧ (c.rise t = c.measure t ∨ c.rise t = c.sampledAt t))
    ∨ (c.bitPosition = 19 ∧ (countAt c t).getLsbD 0 = false
      ∧ c.rise t = { (c.sampledAt t).publish ((accumulatorAt c t).extractLsb' 2 16) with bitPosition := -1 })
    ∨ (c.bitPosition = 19 ∧ (countAt c t).getLsbD 0 = false ∧ c.rise t = { c.sampledAt t with bitPosition := -1 })
    ∨ (c.bitPosition = 19 ∧ (countAt c t).getLsbD 0 = true
      ∧ c.rise t = { (c.sampledAt t).failParity with bitPosition := -1 }) := by
  rcases Slot.rise_cases t c with ⟨hle, h⟩ | ⟨hlast, h⟩ | ⟨hpos, hne, h⟩
  · exact .inl ⟨by omega, .inl h⟩
  · rw [Slot.measure_sample] at h
    rcases Slot.complete_cases (c.sampledAt t) with ⟨heven, -, hc⟩ | ⟨heven, -, -, hc⟩ | ⟨hodd, hc⟩
    · exact .inr (.inl ⟨hlast, heven, h.trans hc⟩)
    · exact .inr (.inr (.inl ⟨hlast, heven, h.trans hc⟩))
    · exact .inr (.inr (.inr ⟨hlast, hodd, h.trans hc⟩))
  · exact .inl ⟨hne, .inr (h.trans (Slot.measure_sample t c))⟩

/-- A sample writes the decoder's fields and no other. -/
theorem Slot.sampledAt_sameButDecoder (c : Slot) (t : Timestamp) : SameButDecoder c (c.sampledAt t) := rfl

/-! ### Positions -/

/-- How a falling edge moves the position (R39). -/
theorem Slot.fall_bitPosition (longGap calOffset t : Timestamp) (c : Slot) :
    (c.fall longGap calOffset t).bitPosition =
      if longGap < t - c.lastEdgeTimestamp then 0 else min (c.bitPosition + 1) 20 := by
  split
  case isTrue hgap => rw [Slot.fall_of_gap hgap]
  case isFalse hshort =>
    by_cases hpos : c.bitPosition = 0
    · rw [Slot.fall_of_position_zero hshort hpos, hpos]
      rfl
    · rw [Slot.fall_of_position_ne_zero hshort hpos]

/-- How a rising edge moves the position (R39, R101). -/
theorem Slot.rise_bitPosition (t : Timestamp) (c : Slot) :
    (c.rise t).bitPosition = if c.bitPosition = 19 then -1 else c.bitPosition := by
  rcases Slot.rise_result t c with ⟨hne, h | h⟩ | ⟨hlast, -, h⟩ | ⟨hlast, -, h⟩ | ⟨hlast, -, h⟩ <;>
    rw [h] <;> simp [Slot.sampledAt, *]

/-! ### The statements -/

/-- Settles O22: a falling edge writes the decoder's fields alone, and nothing else writes the recorded timestamp. -/
theorem onlyFallRecordsTimestamp : Obligations.OnlyFallRecordsTimestamp := by
  refine ⟨fun s i t hocc => ?_, fun op s u j h hl hne => ?_⟩
  · obtain ⟨u, hu, hslot, -, -⟩ := exec_named_becomes (op := .fall i t) rfl hocc
    have hsame := Slot.fall_sameButDecoder Config.longGapUs Config.calOffsetUs t (s.slot i)
    obtain ⟨-, -, -, -, -, hinit, havail, herr⟩ := sameButDecoder_iff.mp hsame
    exact ⟨u, hu, congrArg Slot.lastEdgeTimestamp hslot, hslot ▸ hinit, hslot ▸ havail, hslot ▸ herr⟩
  · rcases exec_slot_cases h hl with hj | ⟨t, hop, -⟩ | ⟨t, -, -, hj⟩ | ⟨-, hj⟩ | ⟨-, -, hj⟩
    · exact absurd (congrArg Slot.lastEdgeTimestamp hj) hne
    · exact ⟨t, hop⟩
    · refine absurd (hj ▸ ?_) hne
      rcases Slot.rise_result t (s.slot j) with ⟨-, h | h⟩ | ⟨-, -, h⟩ | ⟨-, -, h⟩ | ⟨-, -, h⟩ <;> rw [h] <;> rfl
    · exact absurd (congrArg Slot.lastEdgeTimestamp hj) hne
    · exact absurd (congrArg Slot.lastEdgeTimestamp hj) hne

/-- A falling edge on an occupied slot moves its position as `Slot.fall` does. -/
theorem exec_fall_bitPosition {s u : State} {j : SlotIndex} {t : Timestamp} (h : exec (.fall j t) s = .next u)
    (hocc : (s.slot j).occupied = true) :
    (u.slot j).bitPosition =
      if Config.longGapUs < t - (s.slot j).lastEdgeTimestamp then 0 else min ((s.slot j).bitPosition + 1) 20 := by
  rw [eq_of_exec_named rfl h, State.onOccupied_slot_same, if_pos hocc]
  exact Slot.fall_bitPosition _ _ t _

/-- A slot that is loaded is at position -1. -/
theorem exec_loaded_bitPosition {op : Instr} {s u : State} {j : SlotIndex} (h : exec op s = .next u)
    (hl : Loads op s j) : (u.slot j).bitPosition = -1 := by
  rcases exec_slot_loaded h hl with hj | ⟨sig, pwr, typ, -, -, hj⟩ <;> rw [hj] <;> rfl

/-- A slot that is not loaded keeps its position but for the two edges on it. -/
theorem exec_bitPosition_cases {op : Instr} {s u : State} {j : SlotIndex} (h : exec op s = .next u)
    (hl : ¬ Loads op s j) :
    (u.slot j).bitPosition = (s.slot j).bitPosition
    ∨ (∃ t, op = .fall j t
      ∧ ((u.slot j).bitPosition = 0 ∨ (u.slot j).bitPosition = min ((s.slot j).bitPosition + 1) 20))
    ∨ (∃ t, op = .rise j t ∧ (s.slot j).bitPosition = 19 ∧ (u.slot j).bitPosition = -1) := by
  rcases exec_slot_cases h hl with hj | ⟨t, hop, hj⟩ | ⟨t, hop, -, hj⟩ | ⟨-, hj⟩ | ⟨-, -, hj⟩ <;> rw [hj]
  case inr.inl =>
    rw [Slot.fall_bitPosition]
    split
    · exact .inr (.inl ⟨t, hop, .inl rfl⟩)
    · exact .inr (.inl ⟨t, hop, .inr rfl⟩)
  case inr.inr.inl =>
    rw [Slot.rise_bitPosition]
    split
    case isTrue hlast => exact .inr (.inr ⟨t, hop, hlast, rfl⟩)
    case isFalse => exact .inl rfl
  all_goals exact .inl rfl

/-- Settles O49: by the slot an operation loads, and by the two equations of the position for the edges. -/
theorem positionMovesAsTheRulesSay : Obligations.PositionMovesAsTheRulesSay := by
  refine ⟨fun i => ?_, fun op s u j h hlow hhigh => ?_⟩
  · rw [show State.reset.slot i = Slot.reset from SlotArray.get_reset i]
    decide
  · refine ⟨?_, fun hminus => ?_, fun t hop hocc => exec_fall_bitPosition (hop ▸ h) hocc, fun hl hne => ?_⟩
    · by_cases hl : Loads op s j
      · rw [exec_loaded_bitPosition h hl]
        decide
      · rcases exec_bitPosition_cases h hl with hpos | ⟨-, -, hpos | hpos⟩ | ⟨-, -, -, hpos⟩ <;> omega
    · by_cases hl : Loads op s j
      · exact .inr (.inr hl)
      · rcases exec_bitPosition_cases h hl with hpos | ⟨-, -, hpos | hpos⟩ | ⟨t, hop, hlast, -⟩
        · exact .inl (hpos.symm.trans hminus)
        · omega
        · omega
        · exact .inr (.inl ⟨t, hop, hlast⟩)
    · rcases exec_bitPosition_cases h hl with hpos | ⟨t, hop, -⟩ | hcompletes
      · exact absurd hpos hne
      · exact .inl ⟨t, hop⟩
      · exact .inr hcompletes

/-- Settles O52: the edges keep the configuration, and the two other operations write flags only. -/
theorem writeOwnership : Obligations.WriteOwnership := by
  intro op s u j h hl
  rcases exec_slot_cases h hl with hj | ⟨t, rfl, hj⟩ | ⟨t, rfl, -, hj⟩ | ⟨-, hj⟩ | ⟨-, -, hj⟩
  case inr.inl =>
    obtain ⟨hocc, hsig, hpwr, htyp⟩ := Slot.edge_cfg Config.longGapUs Config.calOffsetUs false t (s.slot j)
    rw [hj]
    exact ⟨hocc, hsig, hpwr, htyp, fun hne => absurd rfl (hne t).1⟩
  case inr.inr.inl =>
    obtain ⟨hocc, hsig, hpwr, htyp⟩ := Slot.rise_cfg t (s.slot j)
    rw [hj]
    exact ⟨hocc, hsig, hpwr, htyp, fun hne => absurd rfl (hne t).2⟩
  all_goals simp [hj]

/-- Settles O53: of the operations that do not load the slot only a rising edge writes the reading, at a publish. -/
theorem rawValueChangesOnlyByPublish : Obligations.RawValueChangesOnlyByPublish := by
  intro op s u j h hl hne
  rcases exec_slot_cases h hl with hj | ⟨t, -, hj⟩ | ⟨t, rfl, hocc, hj⟩ | ⟨-, hj⟩ | ⟨-, -, hj⟩
  case inr.inr.inl =>
    rcases Slot.rise_result t (s.slot j) with ⟨-, hr | hr⟩ | ⟨hlast, heven, hr⟩ | ⟨-, -, hr⟩ | ⟨-, -, hr⟩ <;>
      rw [hr] at hj
    case inr.inl =>
      rw [hj]
      exact ⟨⟨t, rfl, hocc, hlast, heven⟩, rfl, rfl, rfl, t, rfl, rfl⟩
    all_goals exact absurd (congrArg Slot.rawValue hj) hne
  case inr.inl => exact absurd (hj ▸ (Slot.fall_keeps_reading _ _ t _).2) hne
  all_goals exact absurd (congrArg Slot.rawValue hj) hne

/-- Settles O54: flag by flag, for each thing an operation that does not load the slot can make of it. -/
theorem flagsChangeOnlyAsTheRulesSay : Obligations.FlagsChangeOnlyAsTheRulesSay := by
  intro op s u j h hl
  rcases exec_slot_cases h hl with hj | ⟨t, -, hj⟩ | ⟨t, rfl, hocc, hj⟩ | ⟨hop, hj⟩ | ⟨hop, hpwr, hj⟩
  case inr.inl =>
    obtain ⟨-, -, -, -, -, hinit, havail, herr⟩ :=
      sameButDecoder_iff.mp (Slot.fall_sameButDecoder Config.longGapUs Config.calOffsetUs t (s.slot j))
    simp_all
  case inr.inr.inl =>
    rcases Slot.rise_result t (s.slot j) with ⟨-, hr | hr⟩ | ⟨hlast, heven, hr⟩ | ⟨-, -, hr⟩ | ⟨hlast, hodd, hr⟩ <;>
      rw [hr] at hj
    case inr.inl =>
      have hvalid : CompletesValid (.rise j t) s j := ⟨t, rfl, hocc, hlast, heven⟩
      simp +contextual [hj, Slot.sampledAt, hvalid]
    case inr.inr.inr =>
      have hinvalid : CompletesInvalid (.rise j t) s j := ⟨t, rfl, hocc, hlast, hodd⟩
      simp +contextual [hj, Slot.sampledAt, hinvalid]
    all_goals simp +contextual [hj, Slot.sampledAt]
  all_goals simp_all

end Sys2Proof.Machine
end

section
/-! The invariant of the slots: what each operation does to a slot keeps it, and so does every step (10_state.md sections
2 and 5). -/

namespace Sys2Proof.Machine

/-! ### The invariant of one slot -/

theorem SlotInv.reset : SlotInv Slot.reset :=
  ⟨by decide, fun _ => rfl, nofun, fun hpos => absurd hpos (by decide)⟩

theorem SlotInv.attached (sig pwr : PinNumber) (typ : SensorCode) : SlotInv (Slot.attached sig pwr typ) :=
  ⟨by simp, nofun, fun _ _ _ => ⟨rfl, rfl⟩, fun hpos => absurd hpos (by simp)⟩

/-- R105: the calibrated threshold and the offset make up half of a short slot 0. -/
theorem calibrated_le {longGap calOffset interval : Timestamp} (hshort : ¬ longGap < interval) :
    interval >>> 1 - calOffset + calOffset ≤ longGap >>> 1 := by
  rw [BitVec.sub_add_cancel, BitVec.le_def, BitVec.toNat_ushiftRight, BitVec.toNat_ushiftRight]
  have hle := BitVec.le_def.mp (BitVec.not_lt.mp hshort)
  omega

section
variable {c d : Slot} (h : SlotInv c) (hocc : c.occupied = true)
include h hocc

/-- On an occupied slot a change of the decoder's fields keeps the invariant where it keeps the range of the position
and the threshold past position 0. -/
theorem SlotInv.of_sameButDecoder (hsame : SameButDecoder c d)
    (hrange : -1 ≤ d.bitPosition ∧ d.bitPosition ≤ 20)
    (hcal : 1 ≤ d.bitPosition → d.strobeThreshold + Config.calOffsetUs ≤ Config.longGapUs >>> 1) : SlotInv d := by
  obtain ⟨hocc', -, hpwr, -, hraw, hinit, havail, -⟩ := sameButDecoder_iff.mp hsame
  refine ⟨hrange, fun hempty => ?_, ?_, hcal⟩
  · rw [hocc', hocc] at hempty
    cases hempty
  · rw [hocc', hpwr, hraw, hinit, havail]
    exact h.external_unpublished

theorem SlotInv.fall (t : Timestamp) : SlotInv (c.fall Config.longGapUs Config.calOffsetUs t) := by
  have hsame := Slot.fall_sameButDecoder Config.longGapUs Config.calOffsetUs t c
  obtain ⟨hlow, hhigh⟩ := h.position_range
  have hpos := Slot.fall_bitPosition Config.longGapUs Config.calOffsetUs t c
  refine h.of_sameButDecoder hocc hsame (by rw [hpos]; split <;> omega) fun hge => ?_
  by_cases hgap : Config.longGapUs < t - c.lastEdgeTimestamp
  · rw [hpos, if_pos hgap] at hge
    omega
  · by_cases hzero : c.bitPosition = 0
    · rw [Slot.fall_of_position_zero hgap hzero]
      exact calibrated_le hgap
    · rw [hpos, if_neg hgap] at hge
      rw [Slot.fall_of_position_ne_zero hgap hzero]
      exact h.calibrated (by omega)

theorem SlotInv.rise (t : Timestamp) : SlotInv (c.rise t) := by
  have hrange : -1 ≤ (c.rise t).bitPosition ∧ (c.rise t).bitPosition ≤ 20 := by
    obtain ⟨hlow, hhigh⟩ := h.position_range
    rw [Slot.rise_bitPosition]
    split <;> omega
  rcases Slot.rise_result t c with ⟨-, hr | hr⟩ | ⟨-, -, hr⟩ | ⟨-, -, hr⟩ | ⟨-, -, hr⟩ <;> rw [hr] at hrange ⊢
  · exact h.of_sameButDecoder hocc rfl hrange h.calibrated
  · exact h.of_sameButDecoder hocc (c.sampledAt_sameButDecoder t) hrange h.calibrated
  · exact ⟨hrange, fun hempty => absurd (hocc.symm.trans hempty) (by decide), nofun, fun hpos => absurd hpos (by simp)⟩
  · exact h.of_sameButDecoder hocc rfl hrange fun hpos => absurd hpos (by simp)
  · exact ⟨hrange, fun hempty => absurd (hocc.symm.trans hempty) (by decide), h.external_unpublished,
      fun hpos => absurd hpos (by simp)⟩

theorem SlotInv.clearFlags : SlotInv c.clearFlags :=
  ⟨h.position_range, fun hempty => absurd (hocc.symm.trans hempty) (by decide),
    fun hocc hext hinit => ⟨(h.external_unpublished hocc hext hinit).1, rfl⟩, h.calibrated⟩

/-- PWR_OFF forgets `initialized` only where the channel is not externally powered (R127). -/
theorem SlotInv.powerOff : SlotInv c.powerOff := by
  by_cases hext : c.powerPin = Config.pinNone
  · rwa [Slot.powerOff_external hext]
  · rw [Slot.powerOff_switched hext]
    exact ⟨h.position_range, fun hempty => absurd (hocc.symm.trans hempty) (by decide),
      fun _ hext' => absurd hext' hext, h.calibrated⟩

/-- What an operation makes of an occupied slot it names satisfies the invariant again. -/
theorem SlotInv.slotEffect (op : Instr) : SlotInv (slotEffect op c) := by
  cases op with
  | fall _ t => exact h.fall hocc t
  | rise _ t => exact h.rise hocc t
  | clrFlags _ => exact h.clearFlags hocc
  | pwrOff _ => exact h.powerOff hocc
  | detach _ => exact SlotInv.reset
  | nop | rdFlags _ | rdRaw _ | pwrOn _ | rdCfg _ | attach _ _ _ | reset => exact h

end

/-! ### The invariant of the machine -/

/-- Every operation keeps the invariant. -/
theorem exec_keeps_inv {op : Instr} {s u : State} (hs : s.Inv) (h : exec op s = .next u) : u.Inv := by
  intro j
  by_cases hl : Loads op s j
  · rcases exec_slot_loaded h hl with hj | ⟨sig, pwr, typ, -, -, hj⟩ <;> rw [hj]
    · exact SlotInv.reset
    · exact SlotInv.attached sig pwr typ
  · rcases exec_slot_not_loaded h hl with hkept | ⟨-, hocc, heffect⟩
    · rw [hkept]
      exact hs j
    · rw [heffect]
      exact (hs j).slotEffect hocc op

/-- Settles O48: every slot is at its reset values. -/
theorem invariantHoldsAtReset : Obligations.InvariantHoldsAtReset :=
  fun i => (congrArg SlotInv (SlotArray.get_reset i)).mpr SlotInv.reset

/-- Settles O47: a step executes an operation, answers a reserved word or resets every slot. -/
theorem invariantIsKept : Obligations.InvariantIsKept := by
  intro s u hs h
  rcases step_cases s with ⟨-, hstep⟩ | ⟨x, rest, -, hstep⟩
  · rw [hstep] at h
    cases h
    exact hs
  · rw [hstep] at h
    rcases perform_cases x { s with inputs := rest } with ⟨op, hop⟩ | hword | hrst
    · exact exec_keeps_inv (s := { s with inputs := rest }) hs (hop ▸ h)
    · rw [hword] at h
      cases h
      exact hs
    · rw [hrst] at h
      cases h
      exact invariantHoldsAtReset

end Sys2Proof.Machine
end

section
/-! Rules over several slots and several operations: the contexts (R174), two operations on different slots (R61), the
distinct signal pins (R199) and the number of occupied slots (R143). -/

namespace Sys2Proof.Machine

/-! ### The contexts -/

/-- No rising edge clears a flag (R98 to R100). -/
theorem Slot.rise_keeps_flags (t : Timestamp) (c : Slot) :
    (c.initialized = true → (c.rise t).initialized = true)
    ∧ (c.valueAvailable = true → (c.rise t).valueAvailable = true)
    ∧ (c.parityError = true → (c.rise t).parityError = true) := by
  rcases Slot.rise_result t c with ⟨-, hr | hr⟩ | ⟨-, -, hr⟩ | ⟨-, -, hr⟩ | ⟨-, -, hr⟩ <;> rw [hr] <;>
    simp +contextual [Slot.sampledAt]

/-- No edge clears a flag. -/
theorem Slot.edge_keeps_flags (longGap calOffset : Timestamp) (lvl : Bool) (t : Timestamp) (c : Slot) :
    (c.initialized = true → (c.edge longGap calOffset lvl t).initialized = true)
    ∧ (c.valueAvailable = true → (c.edge longGap calOffset lvl t).valueAvailable = true)
    ∧ (c.parityError = true → (c.edge longGap calOffset lvl t).parityError = true) := by
  cases lvl with
  | false =>
    obtain ⟨-, -, -, -, -, hinit, havail, herr⟩ :=
      sameButDecoder_iff.mp (Slot.fall_sameButDecoder longGap calOffset t c)
    exact ⟨hinit.trans, havail.trans, herr.trans⟩
  | true => exact Slot.rise_keeps_flags t c

/-- The edge context of a line may issue the edge operations of its slot, and no other. -/
theorem mayIssue_edge {i : SlotIndex} {op : Instr} (h : (Agent.edge i).mayIssue op = true) :
    ∃ lvl t, op = edgeInstr i lvl t := by
  cases op <;> simp [Agent.mayIssue] at h <;> subst h
  case fall t => exact ⟨false, t, rfl⟩
  case rise t => exact ⟨true, t, rfl⟩

/-- Settles O58: the edge context has the two edges, and of the operations on a slot it does not load the reader context
has CLR_FLAGS and PWR_OFF to write with. -/
theorem contextsWriteOnlyTheirOwn : Obligations.ContextsWriteOnlyTheirOwn := by
  intro a op s u hmay h
  refine ⟨fun i ha => ?_, fun ha j hl => ?_⟩
  · subst ha
    obtain ⟨lvl, t, rfl⟩ := mayIssue_edge hmay
    have hi := edgeInstr_slot? i lvl t
    refine ⟨fun j hj => exec_named_slot_ne hi h hj, ?_⟩
    rw [eq_of_exec_named hi h, State.onOccupied_slot_same, slotEffect_edgeInstr]
    split
    · obtain ⟨hocc, hsig, hpwr, htyp⟩ := Slot.edge_cfg Config.longGapUs Config.calOffsetUs lvl t (s.slot i)
      exact ⟨hocc, hsig, hpwr, htyp, Slot.edge_keeps_flags _ _ lvl t _⟩
    · exact ⟨rfl, rfl, rfl, rfl, id, id, id⟩
  · subst ha
    rcases exec_slot_cases h hl with hj | ⟨t, rfl, -⟩ | ⟨t, rfl, -⟩ | ⟨-, hj⟩ | ⟨-, -, hj⟩
    case inr.inl | inr.inr.inl => cases hmay
    all_goals simp [hj]

/-! ### Operations on different slots -/

/-- Settles O51: each operation finds its slot as it was before the other one, and leaves the other's slot alone. -/
theorem differentSlotsCommute : Obligations.DifferentSlotsCommute := by
  intro a b i j s ua uab ub uba hi hj hij ha hab hb hba
  have hib : ub.slot i = s.slot i := exec_named_slot_ne hj hb hij
  have hja : ua.slot j = s.slot j := exec_named_slot_ne hi ha hij.symm
  obtain ⟨hslotA, hrespA, hreqsA⟩ := exec_named_congr hi hib.symm ha hba
  obtain ⟨hslotB, hrespB, hreqsB⟩ := exec_named_congr hj hja hab hb
  refine ⟨SlotArray.ext_get fun k => ?_, hrespA, hreqsA, hrespB, hreqsB⟩
  change uab.slot k = uba.slot k
  by_cases hki : k = i
  · subst hki
    rw [exec_named_slot_ne hj hab hij, hslotA]
  · by_cases hkj : k = j
    · subst hkj
      rw [hslotB, exec_named_slot_ne hi hba hki]
    · rw [exec_named_slot_ne hj hab hkj, exec_named_slot_ne hi ha hki, exec_named_slot_ne hi hba hki,
        exec_named_slot_ne hj hb hkj]

/-! ### The signal pins -/

/-- A slot that is occupied after an operation was so before and keeps its signal pin, or an ATTACH found it free. -/
theorem exec_occupied_signalPin {op : Instr} {s u : State} {j : SlotIndex} (h : exec op s = .next u)
    (hocc : (u.slot j).occupied = true) :
    ((s.slot j).occupied = true ∧ (u.slot j).signalPin = (s.slot j).signalPin)
    ∨ ∃ sig pwr typ, op = .attach sig pwr typ ∧ s.slots.firstFree = some j ∧ (u.slot j).signalPin = sig := by
  by_cases hl : Loads op s j
  · rcases exec_slot_loaded h hl with hj | ⟨sig, pwr, typ, hop, hfound, hj⟩ <;> rw [hj] at hocc ⊢
    · cases hocc
    · exact .inr ⟨sig, pwr, typ, hop, hfound, rfl⟩
  · obtain ⟨hkept, hsig, -⟩ := writeOwnership op s u j h hl
    exact .inl ⟨hkept.symm.trans hocc, hsig⟩

/-- The duty at an ATTACH: its signal pin is that of no occupied slot (R199). -/
theorem hostDuty_attach {s : State} {sig pwr : PinNumber} {typ : SensorCode}
    (hduty : hostDuty s (.attach sig pwr typ) = true) {j : SlotIndex} (hocc : (s.slot j).occupied = true) :
    (s.slot j).signalPin ≠ sig := by
  simp only [hostDuty, Bool.and_eq_true, List.all_eq_true] at hduty
  obtain ⟨-, hall⟩ := hduty
  simpa [hocc] using hall j (mem_slotIndices j)

/-- Settles O46: of two slots occupied after the operation at most one is new, and its pin is that of no other. -/
theorem hostDutyKeepsPinsDistinct : Obligations.HostDutyKeepsPinsDistinct := by
  intro op s u hduty hdistinct h i j hij hi hj
  rcases exec_occupied_signalPin h hi with ⟨hoccI, hsigI⟩ | ⟨sig, pwr, typ, rfl, hfoundI, hsigI⟩
  · rcases exec_occupied_signalPin h hj with ⟨hoccJ, hsigJ⟩ | ⟨sig, pwr, typ, rfl, -, hsigJ⟩
    · rw [hsigI, hsigJ]
      exact hdistinct i j hij hoccI hoccJ
    · rw [hsigI, hsigJ]
      exact hostDuty_attach hduty hoccI
  · rcases exec_occupied_signalPin h hj with ⟨hoccJ, hsigJ⟩ | ⟨-, -, -, -, hfoundJ, -⟩
    · rw [hsigI, hsigJ]
      exact (hostDuty_attach hduty hoccJ).symm
    · exact absurd (Option.some.inj (hfoundI.symm.trans hfoundJ)) hij

/-! ### The number of occupied slots -/

/-- The count, slot by slot. -/
theorem State.occupiedCount_eq (s : State) :
    s.occupiedCount = (s.slot 0).occupied.toNat + (s.slot 1).occupied.toNat + (s.slot 2).occupied.toNat
      + (s.slot 3).occupied.toNat := by
  simp only [State.occupiedCount, slotIndices, List.filter]
  cases (s.slot 0).occupied <;> cases (s.slot 1).occupied <;> cases (s.slot 2).occupied <;>
    cases (s.slot 3).occupied <;> rfl

theorem State.occupiedCount_le (s : State) : s.occupiedCount ≤ 4 :=
  List.length_filter_le _ slotIndices

theorem State.occupiedCount_congr {s u : State} (h : ∀ j, (u.slot j).occupied = (s.slot j).occupied) :
    u.occupiedCount = s.occupiedCount := by
  simp only [State.occupiedCount, h]

/-- Where one slot changes, the count changes by that slot. -/
theorem State.occupiedCount_of_others {s u : State} {i : SlotIndex}
    (h : ∀ j, j ≠ i → (u.slot j).occupied = (s.slot j).occupied) :
    u.occupiedCount + (s.slot i).occupied.toNat = s.occupiedCount + (u.slot i).occupied.toNat := by
  rw [State.occupiedCount_eq, State.occupiedCount_eq]
  have hne (j : SlotIndex) (hj : j ≠ i) := congrArg Bool.toNat (h j hj)
  rcases slotIndex_cases i with rfl | rfl | rfl | rfl
  · have := hne 1 (by decide); have := hne 2 (by decide); have := hne 3 (by decide); omega
  · have := hne 0 (by decide); have := hne 2 (by decide); have := hne 3 (by decide); omega
  · have := hne 0 (by decide); have := hne 1 (by decide); have := hne 3 (by decide); omega
  · have := hne 0 (by decide); have := hne 1 (by decide); have := hne 2 (by decide); omega

/-- With every slot occupied the count is 4 (R143). -/
theorem State.occupiedCount_full {s : State} (h : ∀ i, (s.slot i).occupied = true) : s.occupiedCount = 4 := by
  simp [State.occupiedCount_eq, h]

theorem attachResponse_ne_failure (i : SlotIndex) : attachResponse i ≠ 0x80000001#32 := by
  revert i; decide

/-- A successful ATTACH occupies one slot more. -/
theorem occupiedCount_attached {s : State} {i : SlotIndex} (hfound : s.slots.firstFree = some i) (sig pwr : PinNumber)
    (typ : SensorCode) (r : RespWord) (q : List Request) :
    ((s.setSlot i (Slot.attached sig pwr typ)).answer r q).occupiedCount = s.occupiedCount + 1 := by
  have hfree : (s.slot i).occupied = false := (SlotArray.firstFree_some hfound).1
  have hcount := State.occupiedCount_of_others (s := s) (i := i)
    (u := (s.setSlot i (Slot.attached sig pwr typ)).answer r q)
    fun j hj => congrArg Slot.occupied (State.slot_setSlot_ne s (Slot.attached sig pwr typ) hj)
  simpa [hfree] using hcount

/-- Settles O45: each clause by the one slot the operation loads, or by none. -/
theorem occupiedSlotsAreCounted : Obligations.OccupiedSlotsAreCounted := by
  intro op s u h
  refine ⟨u.occupiedCount_le, ?_, ?_, ?_, ?_, ?_, fun hl => ?_⟩
  · rintro sig pwr typ rfl hresp
    rcases exec_attach_cases h with ⟨-, rfl⟩ | ⟨i, hfound, rfl⟩
    · exact absurd failureResponse_slotExhausted hresp
    · exact occupiedCount_attached hfound sig pwr typ _ _
  · rintro sig pwr typ rfl hresp
    rcases exec_attach_cases h with ⟨hfull, rfl⟩ | ⟨i, -, rfl⟩
    · exact ⟨rfl, State.occupiedCount_full (SlotArray.firstFree_none.mp hfull)⟩
    · exact absurd hresp (attachResponse_ne_failure i)
  · rintro i rfl hocc
    have hcount := State.occupiedCount_of_others (s := s) (u := u) (i := i)
      fun j hj => congrArg Slot.occupied (exec_named_slot_ne rfl h hj)
    have hslot : (u.slot i).occupied = false := by
      rw [eq_of_exec_named rfl h, State.onOccupied_slot_same, if_pos hocc]
      rfl
    simpa [hslot, hocc] using hcount
  · rintro i rfl hempty
    rw [exec_named_empty rfl hempty] at h
    cases h
    rfl
  · rintro rfl
    cases h
    rfl
  · exact State.occupiedCount_congr fun j => (writeOwnership op s u j h (hl j)).1

end Sys2Proof.Machine
end

section
/-! Side effects and repetition (R57), and the state that nothing reads: `edgeInterval` and the upper bits of
`parityCount` (R26, R109). -/

namespace Sys2Proof.Machine

/-! ### An operation issued twice -/

section
variable {op : Instr} {i : SlotIndex} {s u v : State}

/-- An operation that leaves every slot it could name as it is has no side effect. -/
theorem exec_named_no_effect (hi : op.slot? = some i) (heffect : ∀ c, slotEffect op c = c) (h : exec op s = .next u) :
    SlotsKept s u := by
  refine ⟨fun j => ?_, exec_inputs h⟩
  by_cases hj : j = i
  · rw [hj, eq_of_exec_named hi h, State.onOccupied_slot_same, heffect, ite_self]
  · exact exec_named_slot_ne hi h hj

/-- An operation whose effect, done twice, is that of once changes no slot a second time. -/
theorem exec_named_idempotent (hi : op.slot? = some i)
    (heffect : ∀ c, (slotEffect op c).occupied = true → slotEffect op (slotEffect op c) = slotEffect op c)
    (hu : exec op s = .next u) (hv : exec op u = .next v) : SlotsKept u v := by
  refine ⟨fun j => ?_, exec_inputs hv⟩
  by_cases hj : j = i
  · rw [hj, eq_of_exec_named hi hv, State.onOccupied_slot_same]
    split
    case isFalse => rfl
    case isTrue hoccU =>
      have hslot : u.slot i = if (s.slot i).occupied then slotEffect op (s.slot i) else s.slot i := by
        rw [eq_of_exec_named hi hu, State.onOccupied_slot_same]
      cases hocc : (s.slot i).occupied with
      | false =>
        rw [hslot, hocc] at hoccU
        exact absurd (hocc.symm.trans hoccU) (by decide)
      | true =>
        rw [hocc, if_pos rfl] at hslot
        rw [hslot] at hoccU ⊢
        exact heffect _ hoccU
  · exact exec_named_slot_ne hi hv hj

end

theorem Slot.powerOff_powerOff (c : Slot) : c.powerOff.powerOff = c.powerOff := by
  by_cases hext : c.powerPin = Config.pinNone
  · rw [Slot.powerOff_external hext, Slot.powerOff_external hext]
  · rw [Slot.powerOff_switched hext]
    exact Slot.powerOff_switched (c := c.uninitialize) hext

/-- A fresh channel in mid-frame, its threshold above the low phase of an edge at 9. -/
def sampling : Slot := { Slot.attached 7 0xFF 2 with bitPosition := 1, strobeThreshold := 50 }

/-- R57: FALL is not idempotent; the second one measures an interval of 0. -/
theorem fall_not_idempotent : ∃ (i : SlotIndex) (t : Timestamp) (s u v : State),
    exec (.fall i t) s = .next u ∧ exec (.fall i t) u = .next v ∧ v.slot i ≠ u.slot i := by
  obtain ⟨u, hu, hslotU, -, -⟩ :=
    exec_named_becomes (op := .fall 0 9) (s := State.reset.setSlot 0 sampling) rfl rfl
  have hoccU : (u.slot 0).occupied = true := by
    rw [hslotU]
    exact (Slot.edge_cfg _ _ false 9 sampling).1
  obtain ⟨v, hv, hslotV, -, -⟩ := exec_named_becomes (op := .fall 0 9) rfl hoccU
  refine ⟨0, 9, _, u, v, hu, hv, fun h => ?_⟩
  have hfirst : (u.slot 0).edgeInterval = 9 - 0 := hslotU ▸ Slot.fall_edgeInterval _ _ 9 sampling
  have hsecond : (v.slot 0).edgeInterval = 9 - (u.slot 0).lastEdgeTimestamp := hslotV ▸ Slot.fall_edgeInterval _ _ 9 _
  rw [h, hfirst, hslotU] at hsecond
  exact absurd hsecond (by decide)

/-- R57: RISE is not idempotent; the second one samples a second bit. -/
theorem rise_not_idempotent : ∃ (i : SlotIndex) (t : Timestamp) (s u v : State),
    exec (.rise i t) s = .next u ∧ exec (.rise i t) u = .next v ∧ v.slot i ≠ u.slot i :=
  ⟨0, 9, State.reset.setSlot 0 sampling, _, _, rfl, rfl, by decide⟩

/-- Settles O55: the reads have no effect on their slot, the four others the same effect twice, and a successful ATTACH
answers with bit 31 clear. -/
theorem sideEffectsAndIdempotency : Obligations.SideEffectsAndIdempotency := by
  refine ⟨fun op i s u v hop hu hv => ?_, fun op i s u v hop hu hv => ?_, fun sig pwr typ s u h hbit => ?_,
    fall_not_idempotent, rise_not_idempotent⟩
  · have hread (hi : op.slot? = some i) (heffect : ∀ c, slotEffect op c = c) : SlotsKept s u ∧ v.resp = u.resp := by
      have hkept := exec_named_no_effect hi heffect hu
      obtain ⟨-, hresp, -⟩ := exec_named_congr hi (hkept.1 i) hv hu
      exact ⟨hkept, hresp⟩
    simp only [List.mem_cons, List.not_mem_nil, or_false] at hop
    rcases hop with rfl | rfl | rfl | rfl
    · exact hread rfl fun _ => rfl
    · exact hread rfl fun _ => rfl
    · exact hread rfl fun _ => rfl
    · cases hu
      cases hv
      exact ⟨⟨fun _ => rfl, rfl⟩, rfl⟩
  · simp only [List.mem_cons, List.not_mem_nil, or_false] at hop
    rcases hop with rfl | rfl | rfl | rfl
    · exact exec_named_idempotent (op := .clrFlags i) rfl (fun _ _ => rfl) hu hv
    · exact exec_named_idempotent (op := .pwrOff i) rfl (fun c _ => c.powerOff_powerOff) hu hv
    · exact exec_named_idempotent (op := .pwrOn i) rfl (fun _ _ => rfl) hu hv
    · exact exec_named_idempotent (op := .detach i) rfl (fun _ _ => rfl) hu hv
  · rcases exec_attach_cases h with ⟨-, rfl⟩ | ⟨i, hfound, rfl⟩
    · exact absurd hbit (by rw [State.answer_resp, failureResponse_slotExhausted]; decide)
    · exact occupiedCount_attached hfound sig pwr typ _ _

/-! ### Slots that differ in what is hidden -/

/-- The slot with other values in the two hidden fields. -/
def Slot.withHidden (c : Slot) (interval : Timestamp) (count : ParityCount) : Slot :=
  { c with edgeInterval := interval, parityCount := count }

theorem sameButHidden_iff {c d : Slot} :
    SameButHidden c d ↔ ∃ interval count, d = c.withHidden interval count
      ∧ count.getLsbD 0 = c.parityCount.getLsbD 0 := by
  constructor
  · rintro ⟨hd, hbit⟩
    exact ⟨d.edgeInterval, d.parityCount, hd, hbit⟩
  · rintro ⟨interval, count, rfl, hbit⟩
    exact ⟨rfl, hbit⟩

theorem SameButHidden.refl (c : Slot) : SameButHidden c c := ⟨rfl, rfl⟩

section
variable {c d : Slot}

/-- A falling edge reads neither hidden field (R92 to R95). -/
theorem SameButHidden.fall (h : SameButHidden c d) (longGap calOffset t : Timestamp) :
    SameButHidden (c.fall longGap calOffset t) (d.fall longGap calOffset t) := by
  obtain ⟨interval, count, rfl, hbit⟩ := sameButHidden_iff.mp h
  by_cases hgap : longGap < t - c.lastEdgeTimestamp
  · rw [Slot.fall_of_gap hgap, Slot.fall_of_gap (c := c.withHidden interval count) hgap]
    exact ⟨rfl, hbit⟩
  · by_cases hpos : c.bitPosition = 0
    · rw [Slot.fall_of_position_zero hgap hpos, Slot.fall_of_position_zero (c := c.withHidden interval count) hgap hpos]
      exact ⟨rfl, rfl⟩
    · rw [Slot.fall_of_position_ne_zero hgap hpos,
        Slot.fall_of_position_ne_zero (c := c.withHidden interval count) hgap hpos]
      exact ⟨rfl, hbit⟩

/-- A sample counts on from both counts alike (R109). -/
theorem SameButHidden.sampledAt (h : SameButHidden c d) (t : Timestamp) :
    SameButHidden (c.sampledAt t) (d.sampledAt t) := by
  obtain ⟨interval, count, rfl, hbit⟩ := sameButHidden_iff.mp h
  refine ⟨rfl, ?_⟩
  simp only [Slot.sampledAt, countAt_eq_countOne, countOne_getLsbD_zero]
  exact congrArg (· ^^ bitAt c t) hbit

/-- The judgement of a frame reads bit 0 of the count, and no more of what is hidden (R98, R100). -/
theorem Slot.judge_withHidden {interval : Timestamp} {count : ParityCount}
    (hbit : count.getLsbD 0 = c.parityCount.getLsbD 0) :
    (c.withHidden interval count).judge = c.judge.withHidden interval count := by
  have heven : evenParity (c.withHidden interval count).parityCount = evenParity c.parityCount := congrArg (! ·) hbit
  unfold Slot.judge
  rw [heven, apply_ite (Slot.withHidden · interval count), apply_ite (Slot.withHidden · interval count)]
  rfl

theorem Slot.complete_parityCount (c : Slot) : c.complete.parityCount = c.parityCount := by
  rcases Slot.complete_cases c with ⟨-, -, h⟩ | ⟨-, -, -, h⟩ | ⟨-, h⟩ <;> rw [h] <;> rfl

theorem SameButHidden.complete (h : SameButHidden c d) : SameButHidden c.complete d.complete := by
  obtain ⟨interval, count, rfl, hbit⟩ := sameButHidden_iff.mp h
  refine sameButHidden_iff.mpr ⟨interval, count, ?_, c.complete_parityCount.symm ▸ hbit⟩
  unfold Slot.complete
  rw [Slot.judge_withHidden hbit]
  rfl

theorem SameButHidden.rise (h : SameButHidden c d) (t : Timestamp) : SameButHidden (c.rise t) (d.rise t) := by
  have hpos : d.bitPosition = c.bitPosition := (congrArg Slot.bitPosition h.1 :)
  rcases Slot.rise_cases t c with ⟨hle, hc⟩ | ⟨hlast, -⟩ | ⟨hge, hne, -⟩
  · rw [hc, Slot.rise_of_position_nonpos t (hpos ▸ hle)]
    obtain ⟨interval, count, rfl, hbit⟩ := sameButHidden_iff.mp h
    exact ⟨rfl, hbit⟩
  · rw [Slot.rise_of_last hlast, Slot.rise_of_last (hpos.trans hlast)]
    exact (h.sampledAt t).complete
  · rw [Slot.rise_of_sampling hge hne, Slot.rise_of_sampling (hpos ▸ hge) (hpos ▸ hne)]
    exact h.sampledAt t

theorem SameButHidden.powerOff (h : SameButHidden c d) : SameButHidden c.powerOff d.powerOff := by
  obtain ⟨interval, count, rfl, hbit⟩ := sameButHidden_iff.mp h
  by_cases hext : c.powerPin = Config.pinNone
  · rw [Slot.powerOff_external hext, Slot.powerOff_external (c := c.withHidden interval count) hext]
    exact h
  · rw [Slot.powerOff_switched hext, Slot.powerOff_switched (c := c.withHidden interval count) hext]
    exact ⟨rfl, hbit⟩

theorem SameButHidden.slotEffect (h : SameButHidden c d) (op : Instr) :
    SameButHidden (slotEffect op c) (slotEffect op d) := by
  cases op with
  | fall _ t => exact h.fall _ _ t
  | rise _ t => exact h.rise t
  | clrFlags _ =>
    obtain ⟨interval, count, rfl, hbit⟩ := sameButHidden_iff.mp h
    exact ⟨rfl, hbit⟩
  | pwrOff _ => exact h.powerOff
  | detach _ => exact SameButHidden.refl _
  | nop | rdFlags _ | rdRaw _ | pwrOn _ | rdCfg _ | attach _ _ _ | reset => exact h

theorem SameButHidden.occupied_eq (h : SameButHidden c d) : d.occupied = c.occupied := (congrArg Slot.occupied h.1 :)

theorem SameButHidden.signalPin_eq (h : SameButHidden c d) : d.signalPin = c.signalPin :=
  (congrArg Slot.signalPin h.1 :)

/-- No response and no request is made of a hidden field. -/
theorem SameButHidden.answers_eq (h : SameButHidden c d) (op : Instr) :
    slotResponse op d = slotResponse op c ∧ slotRequests op d = slotRequests op c := by
  obtain ⟨interval, count, rfl, -⟩ := sameButHidden_iff.mp h
  cases op <;> exact ⟨rfl, rfl⟩

end

/-! ### Machines that differ in what is hidden -/

/-- The cancellations read what is occupied and the signal pins. -/
theorem SlotArray.cancels_congr {a b : SlotArray}
    (h : ∀ i, (a.get i).occupied = (b.get i).occupied ∧ (a.get i).signalPin = (b.get i).signalPin) :
    a.cancels = b.cancels := by
  unfold SlotArray.cancels
  simp only [h]

theorem exec_sameButHidden {op : Instr} {s s' u u' : State} (hs : s.SameButHidden s') (h : exec op s = .next u)
    (h' : exec op s' = .next u') : u.SameButHidden u' := by
  obtain ⟨hslots, -, -, hinputs⟩ := hs
  have hin : u'.inputs = u.inputs := by rw [exec_inputs h, exec_inputs h', hinputs]
  rcases instr_cases_slot op with ⟨i, hi⟩ | rfl | rfl | ⟨sig, pwr, typ, rfl⟩
  · obtain ⟨hresp, hreqs⟩ := (hslots i).answers_eq op
    refine ⟨fun j => ?_, ?_, ?_, hin⟩
    · by_cases hj : j = i
      · rw [hj, eq_of_exec_named hi h, eq_of_exec_named hi h', State.onOccupied_slot_same, State.onOccupied_slot_same,
          (hslots i).occupied_eq]
        split
        · exact (hslots i).slotEffect op
        · exact hslots i
      · rw [exec_named_slot_ne hi h hj, exec_named_slot_ne hi h' hj]
        exact hslots j
    · rw [eq_of_exec_named hi h, eq_of_exec_named hi h', State.onOccupied_resp, State.onOccupied_resp, hresp,
        (hslots i).occupied_eq]
    · rw [eq_of_exec_named hi h, eq_of_exec_named hi h', State.onOccupied_requests, State.onOccupied_requests, hreqs,
        (hslots i).occupied_eq]
  · cases h
    cases h'
    exact ⟨hslots, rfl, rfl, hin⟩
  · cases h
    cases h'
    refine ⟨fun j => SameButHidden.refl _, rfl, ?_, hin⟩
    exact SlotArray.cancels_congr fun i => ⟨(hslots i).occupied_eq, (hslots i).signalPin_eq⟩
  · have hfree : s'.slots.firstFree = s.slots.firstFree :=
      SlotArray.firstFree_congr fun i => (hslots i).occupied_eq
    rcases exec_attach_cases h with ⟨hnone, rfl⟩ | ⟨i, hfound, rfl⟩
    · rw [exec_attach_full (hfree.trans hnone)] at h'
      cases h'
      exact ⟨hslots, rfl, rfl, hin⟩
    · rw [exec_attach_free (hfree.trans hfound)] at h'
      cases h'
      refine ⟨fun j => ?_, rfl, rfl, hin⟩
      by_cases hj : j = i
      · subst hj
        rw [State.answer_slot, State.answer_slot, State.slot_setSlot_same, State.slot_setSlot_same]
        exact SameButHidden.refl _
      · rw [State.answer_slot, State.answer_slot, State.slot_setSlot_ne _ _ hj, State.slot_setSlot_ne _ _ hj]
        exact hslots j

theorem perform_sameButHidden {x : Input} {s s' u u' : State} (hs : s.SameButHidden s') (h : perform x s = .next u)
    (h' : perform x s' = .next u') : u.SameButHidden u' := by
  have ⟨hslots, _, _, hinputs⟩ := hs
  cases x with
  | word w =>
    cases hw : decode w with
    | instr op =>
      rw [performWord_instr hw] at h h'
      exact exec_sameButHidden hs h h'
    | reserved why =>
      rw [performWord_reserved hw] at h h'
      cases h
      cases h'
      exact ⟨hslots, rfl, rfl, hinputs⟩
  | irq i pins now =>
    have hroute : routeEdge s' i pins now = routeEdge s i pins now := by
      rw [routeEdge, routeEdge, (hslots i).signalPin_eq]
    change exec (routeEdge s' i pins now) s' = .next u' at h'
    exact exec_sameButHidden hs h (hroute ▸ h')
  | rst =>
    cases h
    cases h'
    exact ⟨fun _ => SameButHidden.refl _, rfl, rfl, hinputs⟩

/-- Settles O56: both machines take the same input, and no input reads what is hidden. -/
theorem hiddenStateIsUnobservable : Obligations.HiddenStateIsUnobservable := by
  intro s s' u hs h
  obtain ⟨hslots, hresp, hreqs, hinputs⟩ := hs
  rcases step_cases s with ⟨hnil, hstep⟩ | ⟨x, rest, hcons, hstep⟩
  · rw [hstep] at h
    cases h
    exact ⟨s', step_of_inputs_nil (hinputs.trans hnil), hslots, hresp, hreqs, hinputs⟩
  · obtain ⟨u', hu'⟩ := perform_next x { s' with inputs := rest }
    refine ⟨u', (step_of_inputs_cons (hinputs.trans hcons)).trans hu', ?_⟩
    exact perform_sameButHidden (s := { s with inputs := rest }) (s' := { s' with inputs := rest })
      ⟨hslots, hresp, hreqs, rfl⟩ (hstep ▸ h) hu'

end Sys2Proof.Machine
end

section
/-! The host's `tryRead`: the bounded wait, its end in InitializationTimeout, and the read that follows a wait that ends
in time (R164, R180). -/

namespace Sys2Proof.Machine

/-! ### Kept slots -/

theorem SlotsKept.refl (s : State) : SlotsKept s s := ⟨fun _ => rfl, rfl⟩

theorem SlotsKept.trans {s u v : State} (h : SlotsKept s u) (h' : SlotsKept u v) : SlotsKept s v :=
  ⟨fun j => (h'.1 j).trans (h.1 j), h'.2.trans h.2⟩

theorem SlotBecomes.trans_kept {s u v : State} {i : SlotIndex} {c : Slot} (h : SlotBecomes s u i c)
    (h' : SlotsKept u v) : SlotBecomes s v i c := by
  obtain ⟨hi, hne, hinputs⟩ := h
  obtain ⟨hkept, hinputs'⟩ := h'
  exact ⟨(hkept i).trans hi, fun j hj => (hkept j).trans (hne j hj), hinputs'.trans hinputs⟩

theorem SlotsKept.trans_becomes {s u v : State} {i : SlotIndex} {c : Slot} (h : SlotsKept s u)
    (h' : SlotBecomes u v i c) : SlotBecomes s v i c := by
  obtain ⟨hkept, hinputs⟩ := h
  obtain ⟨hi, hne, hinputs'⟩ := h'
  exact ⟨hi, fun j hj => (hne j hj).trans (hkept j), hinputs'.trans hinputs⟩

/-- The `init` bit of the response of RD_FLAGS (R121). -/
theorem initBit_flagsResponse (c : Slot) : initBit (flagsResponse c) = c.initialized := flagsResponse_getLsbD c 1

/-- RD_FLAGS of an occupied slot keeps every slot and tells whether the channel is initialised. -/
theorem exec_rdFlags_initBit {s : State} {i : SlotIndex} (hocc : (s.slot i).occupied = true) :
    ∃ u, exec (.rdFlags i) s = .next u ∧ SlotsKept s u ∧ initBit u.resp = (s.slot i).initialized := by
  obtain ⟨u, hu, hkept, hresp, -⟩ := exec_named_keeps (op := .rdFlags i) rfl hocc rfl
  exact ⟨u, hu, hkept, hresp ▸ initBit_flagsResponse _⟩

/-! ### The wait -/

/-- What holds of the machine while a `tryRead` on slot `i` waits: the channel is there and not initialised, the host's
reads keep `I`, and so does whatever the other agents do between them. -/
structure WaitKeeps (i : SlotIndex) (others : List (List Instr)) (I : State → Prop) : Prop where
  waiting : ∀ s, I s → (s.slot i).occupied = true ∧ (s.slot i).initialized = false
  kept : ∀ s u, I s → SlotsKept s u → I u
  others_keep : ∀ ops, ops ∈ others → ∀ s, I s → ∃ u, execAll ops s = .next u ∧ I u

section
variable {pollUs : Nat} {i : SlotIndex} {ops : List Instr} {others rest : List (List Instr)} {I : State → Prop}

theorem WaitKeeps.of_subset {others' : List (List Instr)} (h : WaitKeeps i others I)
    (hsub : ∀ ops, ops ∈ others' → ops ∈ others) : WaitKeeps i others' I :=
  ⟨h.waiting, h.kept, fun ops hmem => h.others_keep ops (hsub ops hmem)⟩

theorem WaitKeeps.tail (h : WaitKeeps i (ops :: others) I) : WaitKeeps i others I :=
  h.of_subset fun _ hmem => List.mem_cons_of_mem ops hmem

/-- A poll before the bound that finds the channel un-initialised goes on waiting (R180). -/
theorem tryReadFrom_poll {waited : Nat} {s : State} (h : WaitKeeps i (ops :: others) I) (hs : I s)
    (hbound : waited < Config.readTimeoutUs) :
    ∃ u, I u ∧ tryReadFrom pollUs i ((ops :: others) ++ rest) (.poll waited) s =
      tryReadFrom pollUs i (others ++ rest) (.poll (waited + pollUs)) u := by
  obtain ⟨v, hv, hIv⟩ := h.others_keep ops List.mem_cons_self s hs
  obtain ⟨hocc, hinit⟩ := h.waiting v hIv
  obtain ⟨u, hu, hkept, hbit⟩ := exec_rdFlags_initBit hocc
  refine ⟨u, h.kept v u hIv hkept, ?_⟩
  rw [List.cons_append, tryReadFrom_cons rfl hv hu]
  simp [ReadPhase.onResponse, hbit, hinit, Nat.not_le.mpr hbound]

/-- A poll at the bound that finds the channel un-initialised gives up (R164, R180). -/
theorem tryReadFrom_poll_timeout {waited : Nat} {s : State} (h : WaitKeeps i (ops :: others) I) (hs : I s)
    (hbound : Config.readTimeoutUs ≤ waited) :
    ∃ u, I u ∧ tryReadFrom pollUs i (ops :: others) (.poll waited) s =
      (.done (.failed .initializationTimeout), u) := by
  obtain ⟨v, hv, hIv⟩ := h.others_keep ops List.mem_cons_self s hs
  obtain ⟨hocc, hinit⟩ := h.waiting v hIv
  obtain ⟨u, hu, hkept, hbit⟩ := exec_rdFlags_initBit hocc
  refine ⟨u, h.kept v u hIv hkept, ?_⟩
  rw [tryReadFrom_cons rfl hv hu]
  simp [ReadPhase.onResponse, hbit, hinit, hbound]

/-- As many polls as stay before the bound. -/
theorem tryReadFrom_polls {waited : Nat} {s : State} (h : WaitKeeps i others I) (hs : I s)
    (hbound : ∀ k, k < others.length → waited + k * pollUs < Config.readTimeoutUs) :
    ∃ u, I u ∧ tryReadFrom pollUs i (others ++ rest) (.poll waited) s =
      tryReadFrom pollUs i rest (.poll (waited + others.length * pollUs)) u := by
  induction others generalizing waited s with
  | nil => exact ⟨s, hs, by simp⟩
  | cons ops others ih =>
    have hfirst : waited < Config.readTimeoutUs := by simpa using hbound 0 (by simp)
    obtain ⟨v, hIv, hpoll⟩ := tryReadFrom_poll (pollUs := pollUs) (rest := rest) h hs hfirst
    obtain ⟨u, hIu, hpolls⟩ := ih (waited := waited + pollUs) h.tail hIv fun k hk => by
      have := hbound (k + 1) (by simpa using hk)
      rwa [Nat.add_mul, Nat.one_mul, Nat.add_comm (k * pollUs), ← Nat.add_assoc] at this
    refine ⟨u, hIu, hpoll.trans (hpolls.trans ?_)⟩
    rw [List.length_cons, Nat.add_mul, Nat.one_mul, Nat.add_comm (others.length * pollUs), Nat.add_assoc]

/-- A `tryRead` that finds the channel un-initialised powers the sensor on and begins to wait (R180). -/
theorem tryReadFrom_start {ops' : List Instr} {s : State} (h : WaitKeeps i (ops :: ops' :: others) I) (hs : I s) :
    ∃ u, I u ∧ tryReadFrom pollUs i ((ops :: ops' :: others) ++ rest) .start s =
      tryReadFrom pollUs i (others ++ rest) (.poll 0) u := by
  obtain ⟨v, hv, hIv⟩ := h.others_keep ops List.mem_cons_self s hs
  obtain ⟨hocc, hinit⟩ := h.waiting v hIv
  obtain ⟨u, hu, hkept, hbit⟩ := exec_rdFlags_initBit hocc
  obtain ⟨v', hv', hIv'⟩ := h.tail.others_keep ops' List.mem_cons_self u (h.kept v u hIv hkept)
  obtain ⟨u', hu', hkept', -, -⟩ := exec_named_keeps (op := .pwrOn i) rfl (h.waiting v' hIv').1 rfl
  refine ⟨u', h.kept v' u' hIv' hkept', ?_⟩
  rw [List.cons_append, List.cons_append, tryReadFrom_cons rfl hv hu]
  simp only [ReadPhase.onResponse, hbit, (h.waiting v hIv).2, Bool.false_eq_true, if_false]
  rw [tryReadFrom_cons rfl hv' hu']
  rfl

end

/-! ### The timeout -/

/-- The number of polls before the bound, and one at it: the host's increments reach the bound (R164). -/
theorem exists_polls_to_bound {pollUs : Nat} (hpos : 0 < pollUs) :
    ∃ n, (∀ k, k < n → k * pollUs < Config.readTimeoutUs) ∧ Config.readTimeoutUs ≤ n * pollUs := by
  have hex : ∃ n, Config.readTimeoutUs ≤ n * pollUs := ⟨Config.readTimeoutUs, Nat.le_mul_of_pos_right _ hpos⟩
  exact ⟨Nat.find hex, fun k hk => Nat.not_le.mp (Nat.find_min hex hk), Nat.find_spec hex⟩

/-- A list of three or more is its first two members, what stands between, and its last. -/
theorem exists_first_two_and_last {α : Type} {n : Nat} {l : List α} (h : l.length = n + 3) :
    ∃ a b mid last, l = (a :: b :: mid) ++ [last] ∧ mid.length = n := by
  match l, h with
  | a :: b :: c :: tail, h =>
    refine ⟨a, b, (c :: tail).dropLast, (c :: tail).getLast (by simp), ?_, by simpa using h⟩
    rw [List.cons_append, List.cons_append, List.dropLast_append_getLast]

/-- A `tryRead` whose channel stays un-initialised for the polls before the bound and the one at it ends in
InitializationTimeout. -/
theorem tryReadFrom_timesOut {pollUs n : Nat} {i : SlotIndex} {others : List (List Instr)} {I : State → Prop}
    {s : State} (hlow : ∀ k, k < n → k * pollUs < Config.readTimeoutUs) (hhigh : Config.readTimeoutUs ≤ n * pollUs)
    (hlen : others.length = n + 3) (h : WaitKeeps i others I) (hs : I s) :
    ∃ u, I u ∧ tryReadFrom pollUs i others .start s = (.done (.failed .initializationTimeout), u) := by
  obtain ⟨a, b, mid, last, rfl, rfl⟩ := exists_first_two_and_last hlen
  have hfirst : WaitKeeps i (a :: b :: mid) I := h.of_subset fun ops hmem => List.mem_append_left _ hmem
  have hlast : WaitKeeps i [last] I := h.of_subset fun ops hmem => List.mem_append_right _ hmem
  obtain ⟨v, hIv, hstart⟩ := tryReadFrom_start (pollUs := pollUs) (rest := [last]) hfirst hs
  obtain ⟨w, hIw, hpolls⟩ :=
    tryReadFrom_polls (pollUs := pollUs) (waited := 0) (rest := [last]) hfirst.tail.tail hIv (by simpa using hlow)
  rw [Nat.zero_add] at hpolls
  obtain ⟨u, hIu, hend⟩ := tryReadFrom_poll_timeout (pollUs := pollUs) hlast hIw hhigh
  exact ⟨u, hIu, hstart.trans (hpolls.trans hend)⟩

/-- With no other operation between the host's, the wait keeps every slot. -/
theorem waitKeeps_alone {i : SlotIndex} {s : State} (hocc : (s.slot i).occupied = true)
    (hinit : (s.slot i).initialized = false) {others : List (List Instr)} (h : ∀ ops, ops ∈ others → ops = []) :
    WaitKeeps i others (SlotsKept s) where
  waiting _ hs := ⟨hs.1 i ▸ hocc, hs.1 i ▸ hinit⟩
  kept _ _ := SlotsKept.trans
  others_keep ops hmem v hv := ⟨v, h ops hmem ▸ rfl, hv⟩

/-- Slot `i` is occupied and not initialised, and holds the reading `raw`. -/
def UninitializedWith (i : SlotIndex) (raw : RawValue) (s : State) : Prop :=
  (s.slot i).occupied = true ∧ (s.slot i).initialized = false ∧ (s.slot i).rawValue = raw

/-- Only a rising edge on the channel initialises it (R28). -/
theorem exec_keeps_uninitializedWith {op : Instr} {i : SlotIndex} {raw : RawValue} {s u : State}
    (hs : UninitializedWith i raw s) (hop : op ≠ .detach i ∧ op ≠ .reset ∧ ∀ t, op ≠ .rise i t)
    (h : exec op s = .next u) : UninitializedWith i raw u := by
  obtain ⟨hocc, hinit, hraw⟩ := hs
  obtain ⟨hoccU, hrawU⟩ := exec_keeps_reading hocc hop h
  obtain ⟨hdetach, hreset, hrise⟩ := hop
  obtain ⟨hset, -⟩ := flagsChangeOnlyAsTheRulesSay op s u i h (not_loads_of_occupied hocc hdetach hreset)
  refine ⟨hoccU, Bool.eq_false_iff.mpr fun hinitU => ?_, hrawU.trans hraw⟩
  obtain ⟨t, hop, -⟩ := hset hinit hinitU
  exact hrise t hop

theorem execAll_keeps_uninitializedWith {ops : List Instr} {i : SlotIndex} {raw : RawValue} {s : State}
    (hs : UninitializedWith i raw s) (hops : ∀ op, op ∈ ops → op ≠ .detach i ∧ op ≠ .reset ∧ ∀ t, op ≠ .rise i t) :
    ∃ u, execAll ops s = .next u ∧ UninitializedWith i raw u := by
  induction ops generalizing s with
  | nil => exact ⟨s, rfl, hs⟩
  | cons op ops ih =>
    obtain ⟨v, hv⟩ := exec_next op s
    obtain ⟨u, hu, hsu⟩ := ih (exec_keeps_uninitializedWith hs (hops op List.mem_cons_self) hv)
      fun op' hmem => hops op' (List.mem_cons_of_mem op hmem)
    exact ⟨u, (execAll_cons_of_exec hv).trans hu, hsu⟩

/-- The wait among other agents that leave the channel alone but for falling edges and reads. -/
theorem waitKeeps_uninitializedWith {i : SlotIndex} (raw : RawValue) {others : List (List Instr)}
    (h : ∀ ops, ops ∈ others → ∀ op, op ∈ ops → op ≠ .detach i ∧ op ≠ .reset ∧ ∀ t, op ≠ .rise i t) :
    WaitKeeps i others (UninitializedWith i raw) where
  waiting := fun _ ⟨hocc, hinit, _⟩ => ⟨hocc, hinit⟩
  kept _ _ hs hkept := by
    unfold UninitializedWith
    rw [hkept.1 i]
    exact hs
  others_keep ops hmem _ hs := execAll_keeps_uninitializedWith hs (h ops hmem)

/-- Settles O59: the polls before the bound and the one at it, alone and among others. -/
theorem tryReadTimesOut : Obligations.TryReadTimesOut := by
  intro pollUs i s hpos hocc hinit
  obtain ⟨n, hlow, hhigh⟩ := exists_polls_to_bound hpos
  refine ⟨n + 3, ?_, fun others hlen hothers => ?_⟩
  · obtain ⟨u, hkept, hread⟩ := tryReadFrom_timesOut hlow hhigh List.length_replicate
      (waitKeeps_alone hocc hinit fun ops hmem => List.eq_of_mem_replicate hmem) (SlotsKept.refl s)
    exact ⟨u, hread, hkept⟩
  · obtain ⟨u, ⟨-, hinitU, hrawU⟩, hread⟩ := tryReadFrom_timesOut hlow hhigh hlen
      (waitKeeps_uninitializedWith (s.slot i).rawValue hothers) ⟨hocc, hinit, rfl⟩
    exact ⟨u, hread, hrawU, hinitU⟩

/-! ### The read -/

/-- The slot a read leaves behind: both event flags cleared, and `initialized` forgotten where there is a power pin. -/
def Slot.readOut (c : Slot) : Slot :=
  { c with initialized := decide (c.powerPin = Config.pinNone), valueAvailable := false, parityError := false }

theorem Slot.powerOff_clearFlags {c : Slot} (hinit : c.initialized = true) : c.powerOff.clearFlags = c.readOut := by
  by_cases hext : c.powerPin = Config.pinNone
  · rw [Slot.powerOff_external hext, Slot.readOut, decide_eq_true hext, ← hinit]
    rfl
  · rw [Slot.powerOff_switched hext, Slot.readOut, decide_eq_false hext]
    rfl

theorem rawResponse_truncate (c : Slot) : (rawResponse c).truncate 16 = c.rawValue := by
  apply BitVec.eq_of_toNat_eq
  rw [BitVec.truncate_eq_setWidth, BitVec.toNat_setWidth, rawResponse_toNat, Nat.mod_eq_of_lt c.rawValue.isLt]

theorem Slot.powerOff_reading (c : Slot) : c.powerOff.occupied = c.occupied ∧ c.powerOff.rawValue = c.rawValue := by
  rcases c.powerOff_cases with h | h <;> simp [h]

/-- Once a `tryRead` has found the channel initialised it powers the sensor off, reads and clears (R85f, R180). -/
theorem tryReadFrom_powerOff {pollUs : Nat} {i : SlotIndex} {s : State} (hocc : (s.slot i).occupied = true)
    (hinit : (s.slot i).initialized = true) :
    ∃ u, tryReadFrom pollUs i [[], [], []] .powerOff s = (.done (.reading (s.slot i).rawValue), u)
      ∧ SlotBecomes s u i (s.slot i).readOut := by
  obtain ⟨u, hu, hoff⟩ := exec_named_becomes (op := .pwrOff i) rfl hocc
  have hslotU : u.slot i = (s.slot i).powerOff := hoff.1
  obtain ⟨hoccU, hrawU⟩ := (s.slot i).powerOff_reading
  rw [← hslotU] at hoccU hrawU
  obtain ⟨v, hv, hread, hresp, -⟩ := exec_named_keeps (op := .rdRaw i) rfl (hoccU.trans hocc) rfl
  have hslotV : v.slot i = (s.slot i).powerOff := (hread.1 i).trans hslotU
  obtain ⟨w, hw, hclear⟩ := exec_named_becomes (op := .clrFlags i) (s := v) rfl
    ((congrArg Slot.occupied (hread.1 i)).trans (hoccU.trans hocc))
  have hslotW : slotEffect (.clrFlags i) (v.slot i) = (s.slot i).readOut := by
    rw [hslotV]
    exact Slot.powerOff_clearFlags hinit
  refine ⟨w, ?_, (hoff.trans_kept hread).trans (hslotW ▸ hclear)⟩
  rw [tryReadFrom_cons rfl rfl hu, tryReadFrom_cons rfl rfl hv, tryReadFrom_cons rfl rfl hw, hresp]
  simp only [ReadPhase.onResponse, slotResponse, rawResponse_truncate, hrawU, tryReadFrom_done]

/-- A `tryRead` of an initialised channel. -/
theorem tryReadFrom_initialized {pollUs : Nat} {i : SlotIndex} {s : State} (hocc : (s.slot i).occupied = true)
    (hinit : (s.slot i).initialized = true) :
    ∃ u, tryReadFrom pollUs i (List.replicate 4 []) .start s = (.done (.reading (s.slot i).rawValue), u)
      ∧ SlotBecomes s u i (s.slot i).readOut := by
  obtain ⟨v, hv, hkept, hbit⟩ := exec_rdFlags_initBit hocc
  obtain ⟨u, hread, hbecomes⟩ := tryReadFrom_powerOff (pollUs := pollUs) (s := v) (hkept.1 i ▸ hocc) (hkept.1 i ▸ hinit)
  rw [hkept.1 i] at hread hbecomes
  refine ⟨u, Eq.trans ?_ hread, hkept.trans_becomes hbecomes⟩
  rw [List.replicate_succ, tryReadFrom_cons rfl rfl hv, ReadPhase.onResponse, hbit, hinit, if_pos rfl]
  rfl

theorem CompletesValid.congr {op : Instr} {s u : State} {j : SlotIndex} (h : CompletesValid op s j)
    (hslot : u.slot j = s.slot j) : CompletesValid op u j := by
  unfold CompletesValid
  rw [hslot]
  exact h

/-- A frame that completes parity-valid before a poll, at whatever count of the wait, ends it, and its data bits
are read. -/
theorem tryReadFrom_completes {pollUs waited : Nat} {i : SlotIndex} {t : Timestamp} {s : State}
    (hinit : (s.slot i).initialized = false) (h : CompletesValid (.rise i t) s i) :
    ∃ u, tryReadFrom pollUs i [[.rise i t], [], [], []] (.poll waited) s =
        (.done (.reading ((accumulatorAt (s.slot i) t).extractLsb' 2 16)), u)
      ∧ SlotBecomes s u i ((s.slot i).rise t).readOut := by
  obtain ⟨t', hrise, hocc, hlast, heven⟩ := h
  cases hrise
  have hpublished := Slot.rise_publishes hlast heven (.inr hinit)
  obtain ⟨v, hv, hbecomes⟩ := exec_rise_becomes hocc rfl
  have hslotV : v.slot i = (s.slot i).rise t := hbecomes.1
  have hoccV : (v.slot i).occupied = true := by rw [hslotV, hpublished]; exact hocc
  have hinitV : (v.slot i).initialized = true := by rw [hslotV, hpublished]
  have hrawV : (v.slot i).rawValue = (accumulatorAt (s.slot i) t).extractLsb' 2 16 := by rw [hslotV, hpublished]
  obtain ⟨w, hw, hkept, hbit⟩ := exec_rdFlags_initBit hoccV
  obtain ⟨u, hread, hreadOut⟩ :=
    tryReadFrom_powerOff (pollUs := pollUs) (s := w) (hkept.1 i ▸ hoccV) (hkept.1 i ▸ hinitV)
  rw [hkept.1 i, hrawV] at hread
  rw [hkept.1 i, hslotV] at hreadOut
  refine ⟨u, Eq.trans ?_ hread, (hbecomes.trans_kept hkept).trans hreadOut⟩
  rw [tryReadFrom_cons rfl (execAll_singleton hv) hw, ReadPhase.onResponse, hbit, hinitV, if_pos rfl]

/-- Settles O60: a read of an initialised channel, twice where `readOut` keeps it initialised; and the wait, which keeps
every slot until the frame completes. -/
theorem tryReadReturnsTheReading : Obligations.TryReadReturnsTheReading := by
  refine ⟨fun pollUs i s hocc hinit => ?_, fun pollUs polls i t s hinit hvalid hbound => ?_⟩
  · obtain ⟨u, hread, hbecomes⟩ := tryReadFrom_initialized (pollUs := pollUs) hocc hinit
    refine ⟨u, hread, hbecomes, fun hext => ?_⟩
    have hslotU : u.slot i = (s.slot i).readOut := hbecomes.1
    obtain ⟨v, hagain, hkeeps⟩ := tryReadFrom_initialized (pollUs := pollUs) (i := i) (s := u)
      (by rw [hslotU]; exact hocc) (by rw [hslotU]; exact decide_eq_true hext)
    have hreadOut : (u.slot i).readOut = u.slot i := by rw [hslotU]; rfl
    rw [hreadOut] at hkeeps
    refine ⟨v, hagain.trans ?_, hkeeps.slotsKept⟩
    rw [hslotU]
    rfl
  · have ⟨t', hop, hocc, hlast, heven⟩ := hvalid
    cases hop
    have hwait : WaitKeeps i ([] :: [] :: List.replicate polls []) (SlotsKept s) :=
      waitKeeps_alone hocc hinit fun _ hmem => List.eq_of_mem_replicate (n := polls + 2) hmem
    obtain ⟨v, hkeptV, hstart⟩ := tryReadFrom_start (pollUs := pollUs) (rest := [[.rise i t], [], [], []]) hwait
      (SlotsKept.refl s)
    obtain ⟨w, hkeptW, hpolls⟩ := tryReadFrom_polls (pollUs := pollUs) (waited := 0)
      (rest := [[.rise i t], [], [], []]) hwait.tail.tail hkeptV (by simpa using hbound)
    have hslotW : w.slot i = s.slot i := hkeptW.1 i
    obtain ⟨u, hread, hbecomes⟩ := tryReadFrom_completes (hslotW ▸ hinit) (hvalid.congr hslotW)
    rw [hslotW] at hread hbecomes
    refine ⟨u, ?_, ?_⟩
    · rw [Nat.add_comm 2 polls]
      exact hstart.trans (hpolls.trans hread)
    · have hpublished := hkeptW.trans_becomes hbecomes
      rwa [Slot.rise_publishes hlast heven (.inr hinit)] at hpublished

end Sys2Proof.Machine
end
